-- ==== Sys2Proof/Word.lean ====
section
/-! DEFINITION. The word types of the FCT: bytes, host registers, host transaction words and symbols. -/

namespace Sys2Proof

/-- R9: a byte is an unsigned 8-bit value. -/
abbrev Byte := BitVec 8

/-- R7 `REG_WIDTH`, R150: a host register is 32 bits wide. -/
abbrev Reg := BitVec 32

/-- R7 `CNT_WIDTH`, R145: a counter is 32 bits wide. -/
abbrev Counter := BitVec 32

/-- R301: a host transaction is one 41-bit word. -/
abbrev HostWord := BitVec 41

/-- R304, R305: a receive or acknowledgment symbol is 10 bits wide. -/
abbrev Symbol := BitVec 10

/-- R10: `count(C)` means `C <- (C + 1) mod 2^CNT_WIDTH`. -/
def Counter.succ (c : Counter) : Counter := c + 1

end Sys2Proof
end

