-- ==== Sys2Proof/Syntax.lean ====
section
/-! DEFINITION. The instructions: one constructor for each row of spec/opcode_table.json, and the encoded words of
its five formats. -/

namespace Sys2Proof

/-- The rows of the opcode table. HOST rows are transactions the host issues, CMD rows the commands that a write of
register CMD gives, RXSYM rows the decoder's transitions on a byte read, ACKSYM rows the transmitter's transitions
on an acknowledgment byte read, TOKEN rows the classes of a 1-byte telegram. -/
inductive Instr where
  /-- R301, R510. `val` is carried by the word and ignored. -/
  | hostRead (idx : BitVec 8) (val : BitVec 32)
  /-- R301, R511, R512, R502. -/
  | hostWrite (idx : BitVec 8) (val : BitVec 32)
  /-- R303, R400. -/
  | recv
  /-- R303, R450. -/
  | xmit
  /-- R303, R500. -/
  | start
  /-- R303, R503. -/
  | stop
  /-- R304, R410: `DS = 0`, byte 0xFF. -/
  | s0Esc
  /-- R304, R411: `DS = 0`, any other byte. -/
  | s0Lit (b : Byte)
  /-- R304, R412: `DS = 1`, byte 0x00. -/
  | s1Mark
  /-- R304, R414: `DS = 1`, byte 0xFF. -/
  | s1Ff
  /-- R304, R413: `DS = 1`, any other byte. -/
  | s1Bad (b : Byte)
  /-- R304, R415: `DS = 2`, byte 0x00. -/
  | s2Break
  /-- R304, R416: `DS = 2`, any other byte. -/
  | s2Bad (b : Byte)
  /-- R305, R465: `ACKPOS = 0`, byte 0xFF. -/
  | ackB0
  /-- R305, R465: `ACKPOS = 1`, byte 0x00. -/
  | ackB1
  /-- R305, R465: `ACKPOS = 2`, byte 0x00. -/
  | ackB2
  /-- R305, R465: any other byte. -/
  | ackBad (pos : BitVec 2) (a : Byte)
  /-- R331: the byte 0x01. -/
  | tokenAck
  /-- R334: the bytes 0x00 and 0x02..0x07, of which `low` is bits `[2:0]`. -/
  | tokenUnknown (low : BitVec 3)
  /-- R332: the bytes 0x80..0xFF, of which `id` is bits `[6:0]`. -/
  | tokenAssign (id : BitVec 7)
  /-- R333: the bytes 0x08..0x7F, of which `id` is bits `[6:0]`. -/
  | tokenRelease (id : BitVec 7)
  deriving DecidableEq, Repr

/-- The four commands of R303. -/
inductive Command where
  | recv
  | xmit
  | start
  | stop
  deriving DecidableEq, Repr

/-- The formats of the opcode table (R300). -/
inductive Format where
  | host
  | cmd
  | rxsym
  | acksym
  | token
  deriving DecidableEq, Repr

/-- A word of one of the formats. The same bits mean different instructions in different formats, so a word carries
its format. -/
inductive Encoded where
  | host (w : HostWord)
  | cmd (op : Byte)
  | rxsym (s : Symbol)
  | acksym (a : Symbol)
  | token (b : Byte)
  deriving DecidableEq, Repr

/-- Why the decoder refuses a word. -/
inductive Reject where
  /-- R303: a CMD opcode other than 0x01, 0x02, 0x10 and 0x11. -/
  | reservedCommand (op : Byte)
  /-- R304: a receive symbol with `DS = 3`, which never occurs. -/
  | unreachableSymbol (s : Symbol)
  /-- A bit string longer than every format, or with a bit set above its format's width. -/
  | noFormat
  deriving DecidableEq, Repr

end Sys2Proof
end

