-- ==== Sys2Proof/WellFormed.lean ====
section
/-! DEFINITION. Which instruction terms stand for a word: an operand value that a row of smaller priority takes is
not one of the row's (R300). -/

namespace Sys2Proof

/-- R300: the operand values a row is left with once the rows of smaller priority number have taken theirs. -/
def Instr.wf : Instr → Bool
  | .hostRead _ _ => true
  | .hostWrite _ _ => true
  | .recv => true
  | .xmit => true
  | .start => true
  | .stop => true
  | .s0Esc => true
  | .s0Lit b => b != 0xFF
  | .s1Mark => true
  | .s1Ff => true
  | .s1Bad b => b != 0x00 && b != 0xFF
  | .s2Break => true
  | .s2Bad b => b != 0x00
  | .ackB0 => true
  | .ackB1 => true
  | .ackB2 => true
  | .ackBad pos a => !(pos == 0 && a == 0xFF) && !(pos == 1 && a == 0x00) && !(pos == 2 && a == 0x00)
  | .tokenAck => true
  | .tokenUnknown low => low != 1
  | .tokenAssign _ => true
  | .tokenRelease id => 8 ≤ id.toNat

end Sys2Proof
end

