-- ==== Sys2Proof/Decode.lean ====
section
/-! DEFINITION. Decoding and encoding of the five formats (R300 to R305, R330 to R334), the opcode table as data,
and the host-program notation of R340 and R341. -/

namespace Sys2Proof

/-- R301: bit 40 is `W`, bits `[39:32]` are `IDX`, bits `[31:0]` are `VAL`. -/
def decodeHost (w : HostWord) : Instr :=
  if w.getLsbD 40 then .hostWrite (w.extractLsb' 32 8) (w.extractLsb' 0 32)
  else .hostRead (w.extractLsb' 32 8) (w.extractLsb' 0 32)

/-- R303: the command of an opcode; every other opcode is reserved. -/
def commandOf (op : Byte) : Option Command :=
  if op = 0x01 then some .recv
  else if op = 0x02 then some .xmit
  else if op = 0x10 then some .start
  else if op = 0x11 then some .stop
  else none

/-- R303. -/
def decodeCmd (op : Byte) : Except Reject Instr :=
  match commandOf op with
  | some .recv => .ok .recv
  | some .xmit => .ok .xmit
  | some .start => .ok .start
  | some .stop => .ok .stop
  | none => .error (.reservedCommand op)

/-- R304: `S = DS[1:0] ++ b[7:0]`. -/
def decodeRx (s : Symbol) : Except Reject Instr :=
  let ds := s.extractLsb' 8 2
  let b := s.extractLsb' 0 8
  if ds = 0 then .ok (if b = 0xFF then .s0Esc else .s0Lit b)
  else if ds = 1 then .ok (if b = 0x00 then .s1Mark else if b = 0xFF then .s1Ff else .s1Bad b)
  else if ds = 2 then .ok (if b = 0x00 then .s2Break else .s2Bad b)
  else .error (.unreachableSymbol s)

/-- R305: `A = ACKPOS ++ a[7:0]`; `ACK_BAD` takes what the other rows leave, position 3 included. -/
def decodeAck (s : Symbol) : Instr :=
  let pos := s.extractLsb' 8 2
  let a := s.extractLsb' 0 8
  if pos = 0 ∧ a = 0xFF then .ackB0
  else if pos = 1 ∧ a = 0x00 then .ackB1
  else if pos = 2 ∧ a = 0x00 then .ackB2
  else .ackBad pos a

/-- R330 to R334, with the priorities of the table: ACK, UNKNOWN, ASSIGN, RELEASE. -/
def decodeToken (b : Byte) : Instr :=
  if b = 0x01 then .tokenAck
  else if b.extractLsb' 3 5 = 0 then .tokenUnknown (b.extractLsb' 0 3)
  else if b.getLsbD 7 then .tokenAssign (b.extractLsb' 0 7)
  else .tokenRelease (b.extractLsb' 0 7)

/-- Decoding of a word of any format. It refuses only reserved commands (R303) and symbols with `DS = 3` (R304). -/
def decode : Encoded → Except Reject Instr
  | .host w => .ok (decodeHost w)
  | .cmd op => decodeCmd op
  | .rxsym s => decodeRx s
  | .acksym s => .ok (decodeAck s)
  | .token b => .ok (decodeToken b)

/-- R303: the opcode of a command. -/
def Command.opcode : Command → Byte
  | .recv => 0x01
  | .xmit => 0x02
  | .start => 0x10
  | .stop => 0x11

/-- R301: the word `W ++ IDX ++ VAL`. -/
def hostWord (w : BitVec 1) (idx : BitVec 8) (val : BitVec 32) : HostWord := w ++ idx ++ val

/-- The word of an instruction, from the same tables. -/
def encode : Instr → Encoded
  | .hostRead idx val => .host (hostWord 0 idx val)
  | .hostWrite idx val => .host (hostWord 1 idx val)
  | .recv => .cmd Command.recv.opcode
  | .xmit => .cmd Command.xmit.opcode
  | .start => .cmd Command.start.opcode
  | .stop => .cmd Command.stop.opcode
  | .s0Esc => .rxsym ((0 : BitVec 2) ++ (0xFF : Byte))
  | .s0Lit b => .rxsym ((0 : BitVec 2) ++ b)
  | .s1Mark => .rxsym ((1 : BitVec 2) ++ (0x00 : Byte))
  | .s1Ff => .rxsym ((1 : BitVec 2) ++ (0xFF : Byte))
  | .s1Bad b => .rxsym ((1 : BitVec 2) ++ b)
  | .s2Break => .rxsym ((2 : BitVec 2) ++ (0x00 : Byte))
  | .s2Bad b => .rxsym ((2 : BitVec 2) ++ b)
  | .ackB0 => .acksym ((0 : BitVec 2) ++ (0xFF : Byte))
  | .ackB1 => .acksym ((1 : BitVec 2) ++ (0x00 : Byte))
  | .ackB2 => .acksym ((2 : BitVec 2) ++ (0x00 : Byte))
  | .ackBad pos a => .acksym (pos ++ a)
  | .tokenAck => .token 0x01
  | .tokenUnknown low => .token ((0 : BitVec 5) ++ low)
  | .tokenAssign id => .token ((1 : BitVec 1) ++ id)
  | .tokenRelease id => .token ((0 : BitVec 1) ++ id)

/-! ### The opcode table as data (R300) -/

/-- One row of spec/opcode_table.json: a word `w` of the format matches when `w &&& mask = pattern`. -/
structure Row where
  format   : Format
  mnemonic : String
  mask     : Nat
  pattern  : Nat
  priority : Nat
  deriving DecidableEq, Repr

/-- The rows of spec/opcode_table.json. -/
def opcodeTable : List Row :=
  [ ⟨.host, "HostRead", 0x10000000000, 0x00000000000, 0⟩,
    ⟨.host, "HostWrite", 0x10000000000, 0x10000000000, 0⟩,
    ⟨.cmd, "RECV", 0xFF, 0x01, 0⟩,
    ⟨.cmd, "XMIT", 0xFF, 0x02, 0⟩,
    ⟨.cmd, "START", 0xFF, 0x10, 0⟩,
    ⟨.cmd, "STOP", 0xFF, 0x11, 0⟩ ] ++
  [ ⟨.rxsym, "S0_ESC", 0x3FF, 0x0FF, 0⟩,
    ⟨.rxsym, "S0_LIT", 0x300, 0x000, 1⟩,
    ⟨.rxsym, "S1_MARK", 0x3FF, 0x100, 0⟩,
    ⟨.rxsym, "S1_FF", 0x3FF, 0x1FF, 0⟩,
    ⟨.rxsym, "S1_BAD", 0x300, 0x100, 1⟩,
    ⟨.rxsym, "S2_BREAK", 0x3FF, 0x200, 0⟩,
    ⟨.rxsym, "S2_BAD", 0x300, 0x200, 1⟩ ] ++
  [ ⟨.acksym, "ACK_B0", 0x3FF, 0x0FF, 0⟩,
    ⟨.acksym, "ACK_B1", 0x3FF, 0x100, 0⟩,
    ⟨.acksym, "ACK_B2", 0x3FF, 0x200, 0⟩,
    ⟨.acksym, "ACK_BAD", 0x000, 0x000, 1⟩ ] ++
  [ ⟨.token, "ACK", 0xFF, 0x01, 0⟩,
    ⟨.token, "UNKNOWN", 0xF8, 0x00, 1⟩,
    ⟨.token, "ASSIGN", 0x80, 0x80, 2⟩,
    ⟨.token, "RELEASE", 0x80, 0x00, 3⟩ ]

/-- R300: a row matches a word of its format when the masked word is the row's pattern. -/
def Row.matchesWord (r : Row) (f : Format) (w : Nat) : Bool :=
  r.format == f && w &&& r.mask == r.pattern

/-- R300: of the rows that match, the one with the smallest priority number applies. -/
def lookupRow (f : Format) (w : Nat) : Option Row :=
  (opcodeTable.filter (·.matchesWord f w)).foldl
    (fun best r => match best with
      | none => some r
      | some q => if r.priority < q.priority then some r else some q) none

/-- The format of an encoded word. -/
def Encoded.format : Encoded → Format
  | .host _ => .host
  | .cmd _ => .cmd
  | .rxsym _ => .rxsym
  | .acksym _ => .acksym
  | .token _ => .token

/-- The bits of an encoded word, bit 0 the least significant. -/
def Encoded.value : Encoded → Nat
  | .host w => w.toNat
  | .cmd op => op.toNat
  | .rxsym s => s.toNat
  | .acksym s => s.toNat
  | .token b => b.toNat

/-- The mnemonic of an instruction's row. -/
def Instr.mnemonic : Instr → String
  | .hostRead _ _ => "HostRead"
  | .hostWrite _ _ => "HostWrite"
  | .recv => "RECV"
  | .xmit => "XMIT"
  | .start => "START"
  | .stop => "STOP"
  | .s0Esc => "S0_ESC"
  | .s0Lit _ => "S0_LIT"
  | .s1Mark => "S1_MARK"
  | .s1Ff => "S1_FF"
  | .s1Bad _ => "S1_BAD"
  | .s2Break => "S2_BREAK"
  | .s2Bad _ => "S2_BAD"
  | .ackB0 => "ACK_B0"
  | .ackB1 => "ACK_B1"
  | .ackB2 => "ACK_B2"
  | .ackBad _ _ => "ACK_BAD"
  | .tokenAck => "ACK"
  | .tokenUnknown _ => "UNKNOWN"
  | .tokenAssign _ => "ASSIGN"
  | .tokenRelease _ => "RELEASE"

/-! ### Words without a format tag -/

/-- The word a bit string of `nbits` bits stands for when nothing says its format (DESIGN CHOICE, log entry 12):
up to 8 bits a command, or a token where no command has the opcode; up to 16 bits a receive symbol, or an
acknowledgment symbol where the receive symbol is unreachable; up to 48 bits a host word. -/
def classifyBits (nbits w : Nat) : Except Reject Encoded :=
  if nbits ≤ 8 then
    if w < 2 ^ 8 then
      match commandOf (BitVec.ofNat 8 w) with
      | some _ => .ok (.cmd (BitVec.ofNat 8 w))
      | none => .ok (.token (BitVec.ofNat 8 w))
    else .error .noFormat
  else if nbits ≤ 16 then
    if w < 3 * 2 ^ 8 then .ok (.rxsym (BitVec.ofNat 10 w))
    else if w < 2 ^ 10 then .ok (.acksym (BitVec.ofNat 10 w))
    else .error .noFormat
  else if nbits ≤ 48 then
    if w < 2 ^ 41 then .ok (.host (BitVec.ofNat 41 w)) else .error .noFormat
  else .error .noFormat

/-- The instruction the decoder reads from an instruction whose bits are `w`. -/
def decodeTableWord (nbits w : Nat) : Option Instr :=
  match classifyBits nbits w with
  | .ok e => (decode e).toOption
  | .error _ => none

/-! ### Host-program notation (R340, R341) -/

/-- R340 `rd NAME`. -/
def rd (idx : BitVec 8) : HostWord := hostWord 0 idx 0

/-- R340 `wr NAME, v`. -/
def wr (idx : BitVec 8) (v : BitVec 32) : HostWord := hostWord 1 idx v

/-- R341 `cmd RECV` and the like. -/
def cmdWord (op : Byte) : HostWord := wr 0x00 (op.setWidth 32)

/-- R341 `load b0 b1 ... b(n-1)`: the bytes into TXB from index `i` on. -/
def loadBytes (i : Nat) : List Byte → List HostWord
  | [] => []
  | b :: bs => wr (BitVec.ofNat 8 (0x40 + i)) (b.setWidth 32) :: loadBytes (i + 1) bs

/-- R341 `load`: the bytes, then their number into TXLENR. -/
def load (bs : List Byte) : List HostWord :=
  loadBytes 0 bs ++ [wr 0x03 (BitVec.ofNat 32 bs.length)]

/-- R514 `statistics()`: the reads of CNTESC .. CNTTXF, which are not atomic together (R205). -/
def statisticsReads : List HostWord := [rd 0x08, rd 0x09, rd 0x0A, rd 0x0B, rd 0x0C]

/-- R514 `set_log_mask(m)`. -/
def setLogMask (m : BitVec 32) : HostWord := wr 0x05 m

end Sys2Proof
end

