-- ==== Sys2Proof/Config.lean ====
section
/-! DEFINITION. The parameters of R7, the kinds of free input the transport and the host give, and the free
values of the model (opaque constants with no body). -/

namespace Sys2Proof

/-- R7: the two parameters the spec leaves `OPEN` (D10, D11). They are an argument of the model: State carries
them, every statement over states holds for all four settings, and no step changes them. -/
structure Params where
  /-- R7 `RX_HUNT`: the first RECV after START discards input up to the first break. -/
  rxHunt     : Bool
  /-- R7 `STOP_AT_READ`: a pending STOP may end a RECV at a read boundary. -/
  stopAtRead : Bool
  deriving DecidableEq, Repr

/-- R11: the answer of `TxWrite` and of `Open`. -/
inductive Answer where
  | ok
  | fail
  deriving DecidableEq, Repr, Inhabited

/-- What the agents outside the FCT do in one turn of theirs (R6, R13, R224, R330, R341). -/
inductive Event where
  /-- The host issues one transaction word (R301). -/
  | host (w : HostWord)
  /-- The transport queues one more byte at the end of the marked stream (R224). -/
  | arrive (b : Byte)
  /-- The client asks for `token_class(b)` (R330). -/
  | classify (b : Byte)
  /-- The `wait` pseudo-statement (R341): the host reads STATUS, and again on its next turn while `BUSY` reads 1. -/
  | wait
  deriving DecidableEq, Repr, Inhabited

namespace Config

/-- R7 `MAX_LEN`: the capacity of RXBUF and of TXBUF. -/
def maxLen : Nat := 32

/-- R7 `T_ECHO`, in milliseconds. No step depends on it (R720). -/
def tEchoMs : Nat := 200

/-- R7 `T_ACK`, in milliseconds. No step depends on it (R720). -/
def tAckMs : Nat := 200

/-- R7 `ACK_SEQ`. -/
def ackSeq : List Byte := [0xFF, 0x00, 0x00]

/-- R7: the settings the spec assumes where nothing else is said, and those of `State.reset`. -/
def defaultParams : Params := { rxHunt := false, stopAtRead := false }

/-- R207 `FCT_BASE`: the platform's address of the register index space. No rule reads it. -/
opaque fctBase : Nat

/-- R160: RXBUF's bytes at reset, one free draw per byte. -/
opaque resetRxByte : Nat → Byte

/-- R160: TXBUF's bytes at reset, one free draw per byte. -/
opaque resetTxByte : Nat → Byte

/-- R6, R13: what the outside does in a turn for which the state's tape names nothing (`none`: nothing). -/
opaque freeEvent : Nat → Option Event

/-- R13, R501: how many outside turns come before the sequencer's next turn, where the tape names no number. Every
number is finite, which is the weak fairness R501 asks for. -/
opaque freeBurst : Nat → Nat

/-- R220: the transport's answer to an `Open()` the tape names no answer for. -/
opaque freeOpen : Nat → Answer

/-- R220: the transport's answer to a `TxWrite` the tape names no answer for. -/
opaque freeWrite : Nat → Answer

/-- R14: whether a bounded wait ends in `TIMEOUT` although a byte is queued, where the tape names no outcome. -/
opaque freeTimeout : Nat → Bool

end Config

end Sys2Proof
end

