-- ==== Sys2Proof/Machine/State.lean ====
section
/-! DEFINITION. The state: every field of 10_state.md, the transport (20_memory.md R220 to R229), what the FCT has
given to the outside, and the free inputs the outside will give. -/

namespace Sys2Proof.Machine

open Sys2Proof

/-- R101: the sequencer's control state. The codes 11..15, which PHASE never holds, have no constructor. -/
inductive Phase where
  | off
  | idle
  | rxHunt
  | rx
  | txWrite
  | txEcho1
  | txEcho2
  | txBrkOn
  | txBrkWr
  | txBrkOff
  | txAck
  deriving DecidableEq, Repr

/-- R110: the decoder state. The code 3, which DS never holds, has no constructor. -/
inductive DecState where
  /-- 0, "normal". -/
  | normal
  /-- 1, "saw 0xFF". -/
  | sawFF
  /-- 2, "byte is marked". -/
  | marked
  deriving DecidableEq, Repr

/-- R601: the values of TXCODE. The reserved codes 0x9..0xD, never written, have no constructor. -/
inductive TxCode where
  | ok
  | wrfail
  | echoTimeout
  | echoMismatch
  | echo2Timeout
  | echo2Mismatch
  | brkWrfail
  | ackTimeout
  | ackMismatch
  /-- 0xE, an XMIT is running. -/
  | busycode
  /-- 0xF `NONE`, no XMIT since reset or START. -/
  | noneYet
  deriving DecidableEq, Repr

/-- R11, R127: the transmit-parity mode. -/
inductive Parity where
  | off
  | even
  deriving DecidableEq, Repr

/-- R11: the bound of an `RxRead`. -/
inductive Bound where
  | inf
  | tEcho
  | tAck
  deriving DecidableEq, Repr

/-- R11: what an `RxRead` returns. -/
inductive RxAnswer where
  | byte (b : Byte)
  | timeout
  deriving DecidableEq, Repr

/-- R11: one transport primitive that was performed, with what it was given and answered. `par` is the transmit
parity the channel was in, with which a byte it took goes to the line (R227). -/
inductive Call where
  | rxRead (bound : Bound) (ans : RxAnswer)
  | txWrite (b : Byte) (par : Parity) (ans : Answer)
  | setParity (m : Parity)
  | openPort (ans : Answer)
  | closePort
  deriving DecidableEq, Repr

/-- R140: the diagnostic categories, in the order of LOGMASK's bits. -/
inductive LogCat where
  | error
  | info
  | verbose
  | packetDump
  | tokenTrace
  | byteTrace
  deriving DecidableEq, Repr

/-- R513: what a trace event carries. -/
inductive TraceData where
  | byte (b : Byte)
  | overflow
  | telegram (t : List Byte)
  | code (c : TxCode)
  deriving DecidableEq, Repr

/-- R330: the class of a 1-byte telegram. -/
inductive TokenClass where
  | ack
  | assign (id : BitVec 7)
  | release (id : BitVec 7)
  | unknown
  deriving DecidableEq, Repr

/-- What the FCT answers its client: the register a `HostRead` returns (R510), the class of a byte (R330). -/
inductive Reply where
  | reg (v : Reg)
  | token (c : TokenClass)
  deriving DecidableEq, Repr

/-- R220 to R229: the Serial Transport as the FCT sees it. -/
structure Channel where
  /-- R229: acquired by an `Open()` that answered OK and not released since. -/
  isOpen : Bool
  /-- R227: the transmit-parity mode of the bytes written from now on. -/
  parity : Parity
  /-- R224: the marked stream, the bytes queued and not yet returned, oldest first. -/
  stream : List Byte
  /-- R342: the record of the primitives performed, oldest first. -/
  calls  : List Call
  deriving DecidableEq, Repr

/-- R6, R13, R14, R220: the free inputs to come. A list names the next ones, oldest first; where it has run out, the
step takes a fresh free value of Config and advances `drawn`. -/
structure Env where
  /-- What the outside does in its turns. -/
  events       : List Event
  /-- How many turns of the outside come before the sequencer's next turn. -/
  outsideTurns : Nat
  /-- The numbers of outside turns after each of the sequencer's next turns. -/
  bursts       : List Nat
  /-- The answers of the next `Open()` calls. -/
  opens        : List Answer
  /-- The answers of the next `TxWrite` calls. -/
  writes       : List Answer
  /-- Whether the next bounded reads that find a byte queued end in `TIMEOUT` all the same. -/
  timeouts     : List Bool
  /-- How many free values of Config have been used. -/
  drawn        : Nat
  deriving DecidableEq, Repr

/-- The state of the machine. -/
structure State where
  /-- R7: RX_HUNT and STOP_AT_READ. -/
  params     : Params
  /-- R101. -/
  phase      : Phase
  /-- R110. -/
  ds         : DecState
  /-- R111. -/
  rxbuf      : Vector Byte 32
  /-- R112. -/
  rxlen      : BitVec 6
  /-- R113. -/
  rxovf      : Bool
  /-- R114. -/
  rxDone     : Bool
  /-- R115. -/
  rxAbort    : Bool
  /-- R116. -/
  hunted     : Bool
  /-- R120. -/
  txbuf      : Vector Byte 32
  /-- R121. -/
  txlen      : BitVec 6
  /-- R122. -/
  txidx      : BitVec 6
  /-- R123. -/
  txcnt      : BitVec 6
  /-- R124. -/
  ackpos     : BitVec 2
  /-- R125. -/
  txcode     : TxCode
  /-- R126. -/
  txDone     : Bool
  /-- R127. -/
  par        : Parity
  /-- R128. -/
  brkfail    : Bool
  /-- R130. -/
  stopreq    : Bool
  /-- R131. -/
  cmderr     : Bool
  /-- R132. -/
  startFail  : Bool
  /-- R140. -/
  logmask    : BitVec 6
  /-- R145 `CNT_ESC`. -/
  cntEsc     : Counter
  /-- R145 `CNT_MARK`. -/
  cntMark    : Counter
  /-- R145 `CNT_OVF`. -/
  cntOvf     : Counter
  /-- R145 `CNT_TX_TOTAL`. -/
  cntTxTotal : Counter
  /-- R145 `CNT_TX_FAIL`. -/
  cntTxFail  : Counter
  /-- R650: the attached transport. -/
  chan       : Channel
  /-- R12, R513: the diagnostic events emitted, oldest first. No rule reads them. -/
  sink       : List (LogCat × TraceData)
  /-- R510, R330: what the client has been answered, oldest first. No rule reads it. -/
  replies    : List Reply
  /-- The free inputs to come. -/
  env        : Env
  deriving DecidableEq, Repr

/-- R600: "The FCT has no exceptions, traps or faults." So there is no reason to fault, nobody raises one, and this is
safe: were the hardware to trap somewhere, the spec would be wrong there, and the model with it (log entry 13). -/
inductive Fault where
  deriving DecidableEq, Repr

/-- Why the model refuses to go on. -/
inductive Refusal where
  /-- An instruction without a meaning. Raised by exec's arms only, and none raises it now. Safe. -/
  | notModelled (mnemonic : String)
  /-- The step met a word its decoder rejects. Raised by step. Unreachable: no fetch forms such a word (R300, R304).
  Safe. -/
  | rejected (r : Reject)
  /-- The sequencer would read `TXBUF[TXIDX]` with TXIDX past 31, where TXBUF has no byte (R120). Raised by the fetch
  in phases TX_WRITE and TX_ECHO1. Unreachable: TXIDX is less than TXLEN there (R457). Safe. -/
  | txIndexUnreachable
  deriving DecidableEq, Repr

/-- R160: a buffer of unspecified bytes. -/
def State.freeBuffer (f : Nat → Byte) : Vector Byte 32 := Vector.ofFn fun i => f i.val

/-- R160, R700: the machine right after reset. RXBUF and TXBUF hold free bytes; the transport is closed and has
nothing queued; the tapes of free inputs name nothing, so every input is a free value of Config. -/
def State.reset : State where
  params     := Config.defaultParams
  phase      := .off
  ds         := .normal
  rxbuf      := State.freeBuffer Config.resetRxByte
  rxlen      := 0
  rxovf      := false
  rxDone     := false
  rxAbort    := false
  hunted     := false
  txbuf      := State.freeBuffer Config.resetTxByte
  txlen      := 0
  txidx      := 0
  txcnt      := 0
  ackpos     := 0
  txcode     := .noneYet
  txDone     := false
  par        := .off
  brkfail    := false
  stopreq    := false
  cmderr     := false
  startFail  := false
  logmask    := 0
  cntEsc     := 0
  cntMark    := 0
  cntOvf     := 0
  cntTxTotal := 0
  cntTxFail  := 0
  chan       := { isOpen := false, parity := .off, stream := [], calls := [] }
  sink       := []
  replies    := []
  env        := { events := [], outsideTurns := 0, bursts := [], opens := [], writes := [], timeouts := [], drawn := 0 }

end Sys2Proof.Machine
end

