-- ==== Sys2Proof/Machine/Operands.lean ====
section
/-! DEFINITION. The codes of the state's enumerations and the fields of the values the host writes. -/

namespace Sys2Proof.Machine

open Sys2Proof

/-- R101: the code of a phase. -/
def phaseCode : Phase → BitVec 4
  | .off => 0
  | .idle => 1
  | .rxHunt => 2
  | .rx => 3
  | .txWrite => 4
  | .txEcho1 => 5
  | .txEcho2 => 6
  | .txBrkOn => 7
  | .txBrkWr => 8
  | .txBrkOff => 9
  | .txAck => 10

/-- R110: the code of a decoder state. -/
def dsCode : DecState → BitVec 2
  | .normal => 0
  | .sawFF => 1
  | .marked => 2

/-- R110: the decoder state of a code; 3 is none's. -/
def dsOfCode (c : BitVec 2) : Option DecState :=
  if c = 0 then some .normal
  else if c = 1 then some .sawFF
  else if c = 2 then some .marked
  else none

/-- R601: the code of a transmit result. -/
def txCodeBits : TxCode → BitVec 4
  | .ok => 0x0
  | .wrfail => 0x1
  | .echoTimeout => 0x2
  | .echoMismatch => 0x3
  | .echo2Timeout => 0x4
  | .echo2Mismatch => 0x5
  | .brkWrfail => 0x6
  | .ackTimeout => 0x7
  | .ackMismatch => 0x8
  | .busycode => 0xE
  | .noneYet => 0xF

/-- R140: the bit of LOGMASK that a category has. -/
def logBit : LogCat → Nat
  | .error => 0
  | .info => 1
  | .verbose => 2
  | .packetDump => 3
  | .tokenTrace => 4
  | .byteTrace => 5

/-- R302: a command is bits `[7:0]` of the value written to CMD; bits `[31:8]` are ignored. -/
def valOp (v : Reg) : Byte := v.setWidth 8

/-- R151: TXLENR and LOGMASKR take bits `[5:0]` of the value written. -/
def val6 (v : Reg) : BitVec 6 := v.setWidth 6

/-- R151: TXB[i] takes bits `[7:0]` of the value written. -/
def val8 (v : Reg) : Byte := v.setWidth 8

/-- R304: the receive symbol `S = DS[1:0] ++ b[7:0]`. -/
def rxSymbol (d : DecState) (b : Byte) : Symbol := dsCode d ++ b

/-- R305: the acknowledgment symbol `A = zext_2(ACKPOS) ++ a[7:0]`. -/
def ackSymbol (pos : BitVec 2) (a : Byte) : Symbol := pos ++ a

/-- R150: the first index of RXB[0..31] is 0x20; the byte an index names there. -/
def rxbSlot (idx : BitVec 8) : Option (Fin 32) :=
  if h : 0x20 ≤ idx.toNat ∧ idx.toNat < 0x40 then some ⟨idx.toNat - 0x20, by omega⟩ else none

/-- R150: the first index of TXB[0..31] is 0x40; the byte an index names there. -/
def txbSlot (idx : BitVec 8) : Option (Fin 32) :=
  if h : 0x40 ≤ idx.toNat ∧ idx.toNat < 0x60 then some ⟨idx.toNat - 0x40, by omega⟩ else none

/-- R111, R420: the telegram `RXBUF[0..RXLEN-1]`. -/
def rxTelegram (s : State) : List Byte := s.rxbuf.toList.take s.rxlen.toNat

/-- R450: the telegram `TXBUF[0..TXLEN-1]`. -/
def txTelegram (s : State) : List Byte := s.txbuf.toList.take s.txlen.toNat

/-- R452: `TXBUF[TXIDX]`, where TXIDX names a byte of TXBUF. -/
def txByte (s : State) : Option Byte := s.txbuf[s.txidx.toNat]?

end Sys2Proof.Machine
end

