-- ==== Sys2Proof/Machine/Flags.lean ====
section
/-! DEFINITION. The derived flags of R102, the acceptance conditions of the commands and the status registers the
host reads (R150). -/

namespace Sys2Proof.Machine

open Sys2Proof

/-- R102: `BUSY = PHASE not in {OFF, IDLE}`. -/
def Phase.busy : Phase → Bool
  | .off => false
  | .idle => false
  | .rxHunt => true
  | .rx => true
  | .txWrite => true
  | .txEcho1 => true
  | .txEcho2 => true
  | .txBrkOn => true
  | .txBrkWr => true
  | .txBrkOff => true
  | .txAck => true

/-- R102: `TXBUSY = PHASE in {TX_WRITE, TX_ECHO1, TX_ECHO2, TX_BRK_ON, TX_BRK_WR, TX_BRK_OFF, TX_ACK}`. -/
def Phase.txBusy : Phase → Bool
  | .off => false
  | .idle => false
  | .rxHunt => false
  | .rx => false
  | .txWrite => true
  | .txEcho1 => true
  | .txEcho2 => true
  | .txBrkOn => true
  | .txBrkWr => true
  | .txBrkOff => true
  | .txAck => true

/-- R102: `RUN = (PHASE != OFF)`. -/
def State.run (s : State) : Bool := decide (s.phase ≠ .off)

/-- R102. -/
def State.busy (s : State) : Bool := s.phase.busy

/-- R102. -/
def State.txBusy (s : State) : Bool := s.phase.txBusy

/-- R401: when a RECV is accepted. -/
def State.acceptsRecv (s : State) : Bool := decide (s.phase = .idle) && !s.stopreq

/-- R450: when an XMIT is accepted. -/
def State.acceptsXmit (s : State) : Bool :=
  decide (s.phase = .idle) && !s.stopreq && decide (1 ≤ s.txlen.toNat) && decide (s.txlen.toNat ≤ Config.maxLen)

/-- R500: when a START is accepted. -/
def State.acceptsStart (s : State) : Bool := decide (s.phase = .off)

/-- R503: when a STOP is accepted. -/
def State.acceptsStop (s : State) : Bool := decide (s.phase ≠ .off)

/-- R419: whether a step in a receive phase stops at the read boundary. -/
def State.stopsAtRead (s : State) : Bool := s.params.stopAtRead && s.stopreq

/-- R402: whether a RECV begins with the hunt for a break. -/
def State.mustHunt (s : State) : Bool := s.params.rxHunt && !s.hunted

/-- A flag as bit `k` of a register. -/
def flagBit (k : Nat) (b : Bool) : Reg := if b then BitVec.twoPow 32 k else 0

/-- A field of `w` bits placed with its least significant bit at bit `k` of a register. -/
def fieldBits {w : Nat} (k : Nat) (v : BitVec w) : Reg := v.setWidth 32 <<< k

/-- R150 index 0x01. -/
def statusReg (s : State) : Reg :=
  flagBit 0 s.run ||| flagBit 1 s.busy ||| flagBit 2 s.rxDone ||| flagBit 3 s.txDone ||| flagBit 4 s.stopreq |||
    flagBit 5 s.cmderr ||| flagBit 6 s.startFail ||| flagBit 7 (decide (s.par = .even))

/-- R150 index 0x02. -/
def rxstatReg (s : State) : Reg :=
  fieldBits 0 s.rxlen ||| flagBit 8 s.rxovf ||| flagBit 9 s.rxAbort

/-- R150 index 0x04. -/
def txstatReg (s : State) : Reg :=
  fieldBits 0 s.txcnt ||| fieldBits 8 (txCodeBits s.txcode)

/-- R150 index 0x06. -/
def seqReg (s : State) : Reg :=
  fieldBits 0 (phaseCode s.phase) ||| fieldBits 4 (dsCode s.ds) ||| fieldBits 6 s.ackpos ||| fieldBits 8 s.txidx |||
    flagBit 14 s.hunted ||| flagBit 15 s.brkfail

end Sys2Proof.Machine
end

