-- ==== Sys2Proof/Machine/Ops.lean ====
section
/-! DEFINITION. The shared operations: the transport primitives (R11, R224 to R229), the free draws behind their
answers, trace events (R12, R513), the append to RXBUF (R417), and the two ways the FCT reports a failure. The FCT
takes no exception and returns from none (R600, R612, R613): `reject` (R505) and `finishTx` (R470) stand in their
place. -/

namespace Sys2Proof.Machine

open Sys2Proof

/-! ### Reporting -/

/-- R505: a rejected host write sets CMDERR and does nothing else. -/
def reject (s : State) : State := { s with cmderr := true }

/-- R12, R513: the event goes to the sink when its category's bit of LOGMASK is 1. -/
def trace (c : LogCat) (d : TraceData) (s : State) : State :=
  if s.logmask.getLsbD (logBit c) then { s with sink := s.sink ++ [(c, d)] } else s

/-- R470: the end of an XMIT. -/
def finishTx (code : TxCode) (s : State) : State :=
  let s1 := { s with txcode := code }
  let s2 := if code = .ok then s1 else trace .error (.code code) { s1 with cntTxFail := s1.cntTxFail.succ }
  { s2 with txDone := true, phase := .idle }

/-- R510, R330: an answer to the client. -/
def reply (r : Reply) (s : State) : State := { s with replies := s.replies ++ [r] }

/-! ### The transport primitives -/

/-- R342: the transport's record of a primitive. -/
def record (c : Call) (s : State) : State := { s with chan := { s.chan with calls := s.chan.calls ++ [c] } }

/-- R220: the answer the next `TxWrite` gets. -/
def writeAnswer (s : State) : Answer :=
  match s.env.writes with
  | a :: _ => a
  | [] => Config.freeWrite s.env.drawn

/-- The inputs once that answer is used. -/
def useWrite (e : Env) : Env :=
  match e.writes with
  | _ :: rest => { e with writes := rest }
  | [] => { e with drawn := e.drawn + 1 }

/-- R226, R227: `TxWrite(b)`, with the channel's parity. Its answer is `writeAnswer`. -/
def txWrite (b : Byte) (s : State) : State :=
  record (.txWrite b s.chan.parity (writeAnswer s)) { s with env := useWrite s.env }

/-- R227: `SetParity(m)`. -/
def setParity (m : Parity) (s : State) : State :=
  record (.setParity m) { s with chan := { s.chan with parity := m } }

/-- R220: the answer the next `Open()` gets. -/
def openAnswer (s : State) : Answer :=
  match s.env.opens with
  | a :: _ => a
  | [] => Config.freeOpen s.env.drawn

/-- The inputs once that answer is used. -/
def useOpen (e : Env) : Env :=
  match e.opens with
  | _ :: rest => { e with opens := rest }
  | [] => { e with drawn := e.drawn + 1 }

/-- R229, D23: `Open()`. An `OK` acquires the transport, which opens with transmit parity OFF. -/
def openPort (s : State) : State :=
  let s1 := { s with env := useOpen s.env }
  let s2 := match openAnswer s with
    | .ok => { s1 with chan := { s1.chan with isOpen := true, parity := .off } }
    | .fail => s1
  record (.openPort (openAnswer s)) s2

/-- R229: `Close()` releases the transport. -/
def closePort (s : State) : State :=
  record .closePort { s with chan := { s.chan with isOpen := false } }

/-- R14, R224: whether a bounded wait that has a byte queued ends in `TIMEOUT` all the same. -/
def timeoutDrawn (s : State) : Bool :=
  match s.env.timeouts with
  | t :: _ => t
  | [] => Config.freeTimeout s.env.drawn

/-- The inputs once that draw is used. -/
def useTimeout (e : Env) : Env :=
  match e.timeouts with
  | _ :: rest => { e with timeouts := rest }
  | [] => { e with drawn := e.drawn + 1 }

/-- R224: what a bounded `RxRead` returns. With nothing queued it is `TIMEOUT` (log entry 9). -/
def boundedAnswer (s : State) : RxAnswer :=
  match s.chan.stream with
  | [] => .timeout
  | b :: _ => if timeoutDrawn s then .timeout else .byte b

/-- R224: the effect of a bounded `RxRead`: a byte returned is consumed, a `TIMEOUT` consumes nothing. -/
def rxReadBounded (bound : Bound) (s : State) : State :=
  let e := match s.chan.stream with
    | [] => s.env
    | _ :: _ => useTimeout s.env
  let q := match boundedAnswer s with
    | .byte _ => s.chan.stream.tail
    | .timeout => s.chan.stream
  record (.rxRead bound (boundedAnswer s)) { s with env := e, chan := { s.chan with stream := q } }

/-- R224: the byte an unbounded `RxRead` returns, when there is one. -/
def unboundedByte (s : State) : Option Byte := s.chan.stream.head?

/-- R224: the effect of an unbounded `RxRead` that returns the byte `b`, the oldest one. -/
def rxReadInf (b : Byte) (s : State) : State :=
  record (.rxRead .inf (.byte b)) { s with chan := { s.chan with stream := s.chan.stream.tail } }

/-! ### The receive buffer -/

/-- R417: `append(v)`, the only write of RXBUF. -/
def append (v : Byte) (s : State) : State :=
  if s.rxlen.toNat < Config.maxLen then
    { s with rxbuf := s.rxbuf.setIfInBounds s.rxlen.toNat v, rxlen := s.rxlen + 1 }
  else if s.rxovf = false then
    trace .error .overflow { s with rxovf := true, cntOvf := s.cntOvf.succ }
  else s

end Sys2Proof.Machine
end

