-- ==== Sys2Proof/Machine/Receive.lean ====
section
/-! DEFINITION. RECV and the frame decoder (40_receive.md). A receive symbol is fetched by reading one byte of the
marked stream in phase RX or RX_HUNT (R304, R403, R404); its meaning is the transition. In RX_HUNT a transition
neither appends nor counts (R403). -/

namespace Sys2Proof.Machine

open Sys2Proof

/-- R405: the actions of the decoder. -/
inductive DecAction where
  | none
  | append (v : Byte)
  | escAnomaly
  | markAnomaly
  | break
  deriving DecidableEq, Repr

/-- R405: the decoder transition as a pure function. -/
def decodeStep (d : DecState) (b : Byte) : DecState × DecAction :=
  match d with
  | .normal => if b = 0xFF then (.sawFF, .none) else (.normal, .append b)
  | .sawFF =>
    if b = 0x00 then (.marked, .none)
    else if b = 0xFF then (.normal, .append 0xFF)
    else (.normal, .escAnomaly)
  | .marked => if b = 0x00 then (.normal, .break) else (.normal, .markAnomaly)

/-- R402: the start step of an accepted RECV. -/
def startRecv (s : State) : State :=
  { s with
    cmderr := false, rxDone := false, rxAbort := false, ds := .normal, rxlen := 0, rxovf := false,
    phase := if s.mustHunt then .rxHunt else .rx }

/-- R502, R401: the command RECV. -/
def commandRecv (s : State) : State := if s.acceptsRecv then startRecv s else reject s

/-- R419: the end of a RECV at a read boundary. -/
def abortRecv (s : State) : State := { s with rxAbort := true, ds := .normal, phase := .idle }

/-- R403, R404: an effect that only phase RX has, not the hunt. -/
def unlessHunting (f : State → State) (s : State) : State := if s.phase = .rxHunt then s else f s

/-- R413, R602: the escape anomaly caused by the byte `b`. -/
def escAnomaly (b : Byte) (s : State) : State :=
  trace .error (.byte b) { s with cntEsc := s.cntEsc.succ }

/-- R416, R602: the mark anomaly caused by the byte `b`. -/
def markAnomaly (b : Byte) (s : State) : State :=
  trace .error (.byte b) { s with cntMark := s.cntMark.succ }

/-- R415: the telegram is complete. -/
def completeTelegram (s : State) : State :=
  { trace .packetDump (.telegram (rxTelegram s)) { s with rxDone := true } with phase := .idle }

/-- R403: the hunt has found its break. -/
def endHunt (s : State) : State := { s with hunted := true, phase := .rx }

/-- R502, R400: `RECV`. -/
def execRecv (s : State) : Host.Outcome State Fault Refusal := .next (commandRecv s)

/-- R410: `S0_ESC`. -/
def execS0Esc (s : State) : Host.Outcome State Fault Refusal := .next { s with ds := .sawFF }

/-- R411: `S0_LIT`. -/
def execS0Lit (b : Byte) (s : State) : Host.Outcome State Fault Refusal :=
  .next { unlessHunting (append b) s with ds := .normal }

/-- R412: `S1_MARK`. -/
def execS1Mark (s : State) : Host.Outcome State Fault Refusal := .next { s with ds := .marked }

/-- R414: `S1_FF`. -/
def execS1Ff (s : State) : Host.Outcome State Fault Refusal :=
  .next { unlessHunting (append 0xFF) s with ds := .normal }

/-- R413: `S1_BAD`. -/
def execS1Bad (b : Byte) (s : State) : Host.Outcome State Fault Refusal :=
  .next { unlessHunting (escAnomaly b) s with ds := .normal }

/-- R415, R403: `S2_BREAK`. -/
def execS2Break (s : State) : Host.Outcome State Fault Refusal :=
  .next (if s.phase = .rxHunt then endHunt { s with ds := .normal } else completeTelegram { s with ds := .normal })

/-- R416: `S2_BAD`. -/
def execS2Bad (b : Byte) (s : State) : Host.Outcome State Fault Refusal :=
  .next { unlessHunting (markAnomaly b) s with ds := .normal }

end Sys2Proof.Machine
end

