-- ==== Sys2Proof/Machine/Transmit.lean ====
section
/-! DEFINITION. XMIT (41_transmit.md): the command, the steps of its phases, and the acknowledgment symbols. An
acknowledgment symbol is fetched by reading one byte within `T_ACK` in phase TX_ACK (R305, R465). -/

namespace Sys2Proof.Machine

open Sys2Proof

/-- R451: the start step of an accepted XMIT. -/
def startXmit (s : State) : State :=
  { s with
    cmderr := false, txDone := false, txidx := 0, txcnt := 0, ackpos := 0, brkfail := false, txcode := .busycode,
    cntTxTotal := s.cntTxTotal.succ, phase := .txWrite }

/-- R502, R450: the command XMIT. -/
def commandXmit (s : State) : State := if s.acceptsXmit then startXmit s else reject s

/-- R457: `byte_verified()`. -/
def byteVerified (s : State) : State :=
  { s with
    txcnt := s.txcnt + 1, txidx := s.txidx + 1,
    phase := if (s.txidx + 1).toNat < s.txlen.toNat then .txWrite else .txBrkOn }

/-- R452: the step in phase TX_WRITE, `b` being `TXBUF[TXIDX]`. -/
def stepTxWrite (b : Byte) (s : State) : State :=
  let s1 := trace .byteTrace (.byte b) (txWrite b s)
  match writeAnswer s with
  | .fail => finishTx .wrfail s1
  | .ok => { s1 with phase := .txEcho1 }

/-- R453, R454, R455: the step in phase TX_ECHO1, `b` being `TXBUF[TXIDX]`. -/
def stepTxEcho1 (b : Byte) (s : State) : State :=
  let s1 := rxReadBounded .tEcho s
  match boundedAnswer s with
  | .timeout => finishTx .echoTimeout s1
  | .byte e =>
    if e ≠ b then finishTx .echoMismatch s1
    else if e = 0xFF then { s1 with phase := .txEcho2 }
    else byteVerified s1

/-- R456: the step in phase TX_ECHO2. -/
def stepTxEcho2 (s : State) : State :=
  let s1 := rxReadBounded .tEcho s
  match boundedAnswer s with
  | .timeout => finishTx .echo2Timeout s1
  | .byte e => if e ≠ 0xFF then finishTx .echo2Mismatch s1 else byteVerified s1

/-- R460: the step in phase TX_BRK_ON. -/
def stepTxBrkOn (s : State) : State := { setParity .even s with par := .even, phase := .txBrkWr }

/-- R461: the step in phase TX_BRK_WR. -/
def stepTxBrkWr (s : State) : State :=
  { txWrite 0x00 s with brkfail := decide (writeAnswer s = .fail), phase := .txBrkOff }

/-- R462: the step in phase TX_BRK_OFF. Parity is restored whether or not the zero byte was written. -/
def stepTxBrkOff (s : State) : State :=
  let s1 := { setParity .off s with par := .off }
  if s1.brkfail then finishTx .brkWrfail s1 else { s1 with ackpos := 0, phase := .txAck }

/-- R465: one more byte of `ACK_SEQ` is matched; the third ends the XMIT. -/
def ackMatched (s : State) : State :=
  let s1 := { s with ackpos := s.ackpos + 1 }
  if s1.ackpos = 3 then finishTx .ok s1 else s1

/-- R502, R450: `XMIT`. -/
def execXmit (s : State) : Host.Outcome State Fault Refusal := .next (commandXmit s)

/-- R465: `ACK_B0`. -/
def execAckB0 (s : State) : Host.Outcome State Fault Refusal := .next (ackMatched s)

/-- R465: `ACK_B1`. -/
def execAckB1 (s : State) : Host.Outcome State Fault Refusal := .next (ackMatched s)

/-- R465: `ACK_B2`. -/
def execAckB2 (s : State) : Host.Outcome State Fault Refusal := .next (ackMatched s)

/-- R465: `ACK_BAD`. The position and the byte have no effect beyond having been no byte of `ACK_SEQ` in its place. -/
def execAckBad (_pos : BitVec 2) (_a : Byte) (s : State) : Host.Outcome State Fault Refusal :=
  .next (finishTx .ackMismatch s)

end Sys2Proof.Machine
end

