-- ==== Sys2Proof/Machine/Control.lean ====
section
/-! DEFINITION. START, STOP and the stop cleanup (42_control.md R500 to R504). -/

namespace Sys2Proof.Machine

open Sys2Proof

/-- R500: the fields that a START whose `Open()` answered OK initialises. -/
def startFields (s : State) : State :=
  { s with
    startFail := false,
    ds := .normal, rxlen := 0, rxovf := false, rxDone := false, rxAbort := false, hunted := false,
    txidx := 0, txcnt := 0, ackpos := 0, brkfail := false, txDone := false, txcode := .noneYet,
    phase := .idle }

/-- R500: an accepted START, `Open()` included. -/
def acceptedStart (s : State) : State :=
  let s1 := openPort { s with cmderr := false }
  match openAnswer s with
  | .fail => { s1 with startFail := true }
  | .ok => startFields s1

/-- R502, R500: the command START. -/
def commandStart (s : State) : State := if s.acceptsStart then acceptedStart s else reject s

/-- R502, R503: the command STOP. -/
def commandStop (s : State) : State :=
  if s.acceptsStop then { s with cmderr := false, stopreq := true } else reject s

/-- R504: the stop cleanup. -/
def stopCleanup (s : State) : State := { closePort s with phase := .off, stopreq := false }

/-- R502, R500: `START`. -/
def execStart (s : State) : Host.Outcome State Fault Refusal := .next (commandStart s)

/-- R502, R503: `STOP`. -/
def execStop (s : State) : Host.Outcome State Fault Refusal := .next (commandStop s)

/-- R502: the dispatch of a command write. -/
def runCommand (c : Command) (s : State) : State :=
  match c with
  | .recv => commandRecv s
  | .xmit => commandXmit s
  | .start => commandStart s
  | .stop => commandStop s

end Sys2Proof.Machine
end

