-- ==== Sys2Proof/Machine/Registers.lean ====
section
/-! DEFINITION. Host register access (R150, R151, R505, R510, R511, R512). -/

namespace Sys2Proof.Machine

open Sys2Proof

/-- R150, R510: `layout_i(state)`, the register at index `idx`. CMD and every reserved index read 0. -/
def readReg (idx : BitVec 8) (s : State) : Reg :=
  match rxbSlot idx, txbSlot idx with
  | some i, _ => fieldBits 0 s.rxbuf[i]
  | none, some i => fieldBits 0 s.txbuf[i]
  | none, none =>
    if idx = 0x01 then statusReg s
    else if idx = 0x02 then rxstatReg s
    else if idx = 0x03 then fieldBits 0 s.txlen
    else if idx = 0x04 then txstatReg s
    else if idx = 0x05 then fieldBits 0 s.logmask
    else if idx = 0x06 then seqReg s
    else if idx = 0x08 then s.cntEsc
    else if idx = 0x09 then s.cntMark
    else if idx = 0x0A then s.cntOvf
    else if idx = 0x0B then s.cntTxTotal
    else if idx = 0x0C then s.cntTxFail
    else 0

/-- R511: a write of TXLENR. -/
def writeTxlen (v : Reg) (s : State) : State :=
  if s.txBusy then reject s else { s with txlen := val6 v }

/-- R511: a write of TXB[i]. -/
def writeTxb (i : Fin 32) (v : Reg) (s : State) : State :=
  if s.txBusy then reject s else { s with txbuf := s.txbuf.set i (val8 v) }

/-- R502, R303: a write of CMD. A reserved opcode is rejected. -/
def writeCmd (v : Reg) (s : State) : State :=
  match commandOf (valOp v) with
  | some c => runCommand c s
  | none => reject s

/-- R505, R511, R512: a write of the register at index `idx`. Read-only registers and reserved indices reject it. -/
def writeReg (idx : BitVec 8) (v : Reg) (s : State) : State :=
  match txbSlot idx with
  | some i => writeTxb i v s
  | none =>
    if idx = 0x00 then writeCmd v s
    else if idx = 0x03 then writeTxlen v s
    else if idx = 0x05 then { s with logmask := val6 v }
    else reject s

/-- R510: `HostRead`. The word's `val` is ignored (R301). -/
def execHostRead (idx : BitVec 8) (_val : BitVec 32) (s : State) : Host.Outcome State Fault Refusal :=
  .next (reply (.reg (readReg idx s)) s)

/-- R502, R511, R512, R505: `HostWrite`. -/
def execHostWrite (idx : BitVec 8) (val : BitVec 32) (s : State) : Host.Outcome State Fault Refusal :=
  .next (writeReg idx val s)

end Sys2Proof.Machine
end

