-- ==== Sys2Proof/Machine/Token.lean ====
section
/-! DEFINITION. The token classes as the client's query of them (R330 to R334). The classification changes no state
of the FCT (nothing in the FCT calls it); the class is answered to the client. -/

namespace Sys2Proof.Machine

open Sys2Proof

/-- R331: `ACK`. -/
def execTokenAck (s : State) : Host.Outcome State Fault Refusal := .next (reply (.token .ack) s)

/-- R334: `UNKNOWN`. -/
def execTokenUnknown (_low : BitVec 3) (s : State) : Host.Outcome State Fault Refusal :=
  .next (reply (.token .unknown) s)

/-- R332: `ASSIGN`. -/
def execTokenAssign (id : BitVec 7) (s : State) : Host.Outcome State Fault Refusal :=
  .next (reply (.token (.assign id)) s)

/-- R333: `RELEASE`. -/
def execTokenRelease (id : BitVec 7) (s : State) : Host.Outcome State Fault Refusal :=
  .next (reply (.token (.release id)) s)

end Sys2Proof.Machine
end

