-- ==== Sys2Proof/Machine/Fetch.lean ====
section
/-! DEFINITION. Whose turn it is, and what that turn fetches: a host transaction, a byte to classify, or a symbol the
sequencer forms from a byte it reads. The sequencer's steps that form no symbol are run here. -/

namespace Sys2Proof.Machine

open Sys2Proof

/-- What a turn comes to. -/
inductive Fetched where
  /-- The turn is complete. -/
  | done (t : State)
  /-- The word `e` is to be decoded and run in the state `t`. -/
  | run (e : Encoded) (t : State)
  /-- The state is one the spec rules out. -/
  | stuck (r : Refusal)

/-- R501: how many turns of the outside follow the sequencer's turn. -/
def nextBurst (e : Env) : Nat :=
  match e.bursts with
  | n :: _ => n
  | [] => Config.freeBurst e.drawn

/-- The inputs once the sequencer has its turn. -/
def useBurst (e : Env) : Env :=
  match e.bursts with
  | n :: rest => { e with outsideTurns := n, bursts := rest }
  | [] => { e with outsideTurns := Config.freeBurst e.drawn, drawn := e.drawn + 1 }

/-- What the outside does in its turn. -/
def nextEvent (e : Env) : Option Event :=
  match e.events with
  | v :: _ => some v
  | [] => Config.freeEvent e.drawn

/-- The inputs once that event is used. -/
def useEvent (e : Env) : Env :=
  match e.events with
  | _ :: rest => { e with events := rest }
  | [] => { e with drawn := e.drawn + 1 }

/-- R224: one more byte at the end of the marked stream. It joins in every phase, also in OFF while the transport is
closed, of which the spec says nothing (DESIGN CHOICE, log entry 25). -/
def arrive (b : Byte) (s : State) : State :=
  { s with chan := { s.chan with stream := s.chan.stream ++ [b] } }

/-- A turn of the outside. The `wait` of R341 stays the next event while `BUSY` reads 1. -/
def outsideTurn (s : State) : Fetched :=
  let t := { s with env := useEvent s.env }
  match nextEvent s.env with
  | none => .done t
  | some (.host w) => .run (.host w) t
  | some (.arrive b) => .done (arrive b t)
  | some (.classify b) => .run (.token b) t
  | some .wait =>
    .run (.host (rd 0x01))
      (if s.busy then { t with env := { t.env with events := .wait :: t.env.events } } else t)

/-- R403, R404, R419: a step in phase RX_HUNT or RX. With no byte queued it waits (R224). -/
def rxTurn (s : State) : Fetched :=
  if s.stopsAtRead then .done (abortRecv s)
  else
    match unboundedByte s with
    | none => .done s
    | some b => .run (.rxsym (rxSymbol s.ds b)) (unlessHunting (trace .byteTrace (.byte b)) (rxReadInf b s))

/-- R465: a step in phase TX_ACK. -/
def ackTurn (s : State) : Fetched :=
  match boundedAnswer s with
  | .timeout => .done (finishTx .ackTimeout (rxReadBounded .tAck s))
  | .byte a => .run (.acksym (ackSymbol s.ackpos a)) (rxReadBounded .tAck s)

/-- R452, R453: a step that reads `TXBUF[TXIDX]`. -/
def withTxByte (f : Byte → State → State) (s : State) : Fetched :=
  match txByte s with
  | some b => .done (f b s)
  | none => .stuck .txIndexUnreachable

/-- R501: the sequencer's step. -/
def sequencerTurn (s : State) : Fetched :=
  match s.phase with
  | .off => .done s
  | .idle => .done (if s.stopreq then stopCleanup s else s)
  | .rxHunt => rxTurn s
  | .rx => rxTurn s
  | .txWrite => withTxByte stepTxWrite s
  | .txEcho1 => withTxByte stepTxEcho1 s
  | .txEcho2 => .done (stepTxEcho2 s)
  | .txBrkOn => .done (stepTxBrkOn s)
  | .txBrkWr => .done (stepTxBrkWr s)
  | .txBrkOff => .done (stepTxBrkOff s)
  | .txAck => ackTurn s

/-- R13: one step is one turn, the outside's while it has turns left, else the sequencer's. -/
def fetch (s : State) : Fetched :=
  match s.env.outsideTurns with
  | n + 1 => outsideTurn { s with env := { s.env with outsideTurns := n } }
  | 0 => sequencerTurn { s with env := useBurst s.env }

/-- R341 `send b0 b1 ... b(n-1)`, as events of the outside. -/
def sendEvents (bs : List Byte) : List Event := (load bs).map .host ++ [.host (cmdWord 0x02), .wait]

/-- R341 `recv`, as events of the outside. -/
def recvEvents : List Event := [.host (cmdWord 0x01), .wait]

/-- An outside turn that does `v`, before all that was to come. -/
def placeEvent (v : Event) (s : State) : State :=
  { s with env := { s.env with events := v :: s.env.events, outsideTurns := s.env.outsideTurns + 1 } }

/-- The word `e` where the next turn fetches it (log entry 11). A host word, a command and a byte to classify become
the next event of an outside turn added before all others. A symbol needs the sequencer's turn, the phase and the
decoder state or acknowledgment position it is formed in, no stop at the read boundary, and its byte at the head of
the marked stream. -/
def placeFetched (e : Encoded) (s : State) : State :=
  match e with
  | .host w => placeEvent (.host w) s
  | .cmd op => placeEvent (.host (cmdWord op)) s
  | .token b => placeEvent (.classify b) s
  | .rxsym w =>
    { s with
      phase := .rx, ds := (dsOfCode (w.extractLsb' 8 2)).getD s.ds, stopreq := s.stopreq && !s.params.stopAtRead,
      chan := { s.chan with stream := w.extractLsb' 0 8 :: s.chan.stream },
      env := { s.env with outsideTurns := 0 } }
  | .acksym w =>
    { s with
      phase := .txAck, ackpos := w.extractLsb' 8 2,
      chan := { s.chan with stream := w.extractLsb' 0 8 :: s.chan.stream },
      env := { s.env with outsideTurns := 0, timeouts := false :: s.env.timeouts } }

end Sys2Proof.Machine
end

