-- ==== Sys2Proof/Machine/Dispatch.lean ====
section
/-! DEFINITION. One arm per instruction. -/

namespace Sys2Proof.Machine

open Sys2Proof

def exec (i : Instr) (s : State) : Host.Outcome State Fault Refusal :=
  match i with
  | .hostRead idx val => Sys2Proof.Machine.execHostRead idx val s
  | .hostWrite idx val => Sys2Proof.Machine.execHostWrite idx val s
  | .recv => Sys2Proof.Machine.execRecv s
  | .xmit => Sys2Proof.Machine.execXmit s
  | .start => Sys2Proof.Machine.execStart s
  | .stop => Sys2Proof.Machine.execStop s
  | .s0Esc => Sys2Proof.Machine.execS0Esc s
  | .s0Lit b => Sys2Proof.Machine.execS0Lit b s
  | .s1Mark => Sys2Proof.Machine.execS1Mark s
  | .s1Ff => Sys2Proof.Machine.execS1Ff s
  | .s1Bad b => Sys2Proof.Machine.execS1Bad b s
  | .s2Break => Sys2Proof.Machine.execS2Break s
  | .s2Bad b => Sys2Proof.Machine.execS2Bad b s
  | .ackB0 => Sys2Proof.Machine.execAckB0 s
  | .ackB1 => Sys2Proof.Machine.execAckB1 s
  | .ackB2 => Sys2Proof.Machine.execAckB2 s
  | .ackBad pos a => Sys2Proof.Machine.execAckBad pos a s
  | .tokenAck => Sys2Proof.Machine.execTokenAck s
  | .tokenUnknown low => Sys2Proof.Machine.execTokenUnknown low s
  | .tokenAssign id => Sys2Proof.Machine.execTokenAssign id s
  | .tokenRelease id => Sys2Proof.Machine.execTokenRelease id s

end Sys2Proof.Machine
end

