-- ==== Sys2Proof/Machine/Step.lean ====
section
/-! DEFINITION. One step of the machine, and the placing of one word where the next step fetches. -/

namespace Sys2Proof.Machine

open Sys2Proof

/-- R13: one turn. Where it fetches a word, the word's instruction is run. -/
def step (s : State) : Host.Outcome State Fault Refusal :=
  match fetch s with
  | .done t => .next t
  | .stuck r => .refused r
  | .run e t =>
    match decode e with
    | .ok i => exec i t
    | .error r => .refused (.rejected r)

/-- The word of `nbits` bits `w` where the next step fetches it; a bit string of no format places nothing. -/
def State.withFetchWord (s : State) (nbits w : Nat) : State :=
  match classifyBits nbits w with
  | .ok e => placeFetched e s
  | .error _ => s

end Sys2Proof.Machine
end

