-- ==== Sys2Proof/Machine/Wire.lean ====
section
/-! DEFINITION. The wire formats the FCT carries: the line form and the marked form (R221, R222, R323), the data
telegram (R321), the token classes (R330 to R334), and what the transport's record says of the line (R226, R227,
R342). None of them is state. -/

namespace Sys2Proof.Machine

open Sys2Proof

/-- R222: what the receiver can see on the line. An errored zero byte is the BREAK. -/
inductive LineEvent where
  /-- A byte received without error. -/
  | good (b : Byte)
  /-- A byte received with a framing or parity error. -/
  | errored (b : Byte)
  deriving DecidableEq, Repr

/-- R222: a BREAK is a zero byte received with a framing or parity error. -/
def lineBreak : LineEvent := .errored 0x00

/-- R222: the bytes delivered for a line event. -/
def mark : LineEvent → List Byte
  | .good b => if b = 0xFF then [0xFF, 0xFF] else [b]
  | .errored b => [0xFF, 0x00, b]

/-- R323: the marked stream of a sequence of line events. -/
def markAll (es : List LineEvent) : List Byte := es.flatMap mark

/-- R323: the marked form of a telegram received without error, with the break that ends it. -/
def markedForm (t : List Byte) : List Byte := markAll (t.map .good) ++ [0xFF, 0x00, 0x00]

/-- R221: the line form of a telegram: its bytes with parity OFF, then a zero byte with even parity. -/
def lineForm (t : List Byte) : List (Byte × Parity) := t.map (·, .off) ++ [(0x00, .even)]

/-- R221, R475: how a far end sees a byte sent: even parity makes it errored. -/
def receivedAs : Byte × Parity → LineEvent
  | (b, .off) => .good b
  | (b, .even) => .errored b

/-- R226, R227: the bytes that went to the line, each with its parity. A byte answered FAIL never does. -/
def lineOf (cs : List Call) : List (Byte × Parity) :=
  cs.filterMap fun c => match c with
    | .txWrite b p .ok => some (b, p)
    | .txWrite _ _ .fail => none
    | .rxRead _ _ => none
    | .setParity _ => none
    | .openPort _ => none
    | .closePort => none

/-- R342: an item of the `line:` record. -/
inductive LineItem where
  | opened
  | closed
  | parityOn
  | parityOff
  | byte (b : Byte)
  deriving DecidableEq, Repr

/-- R342: the `line:` record of what the transport was asked, reads left out. -/
def lineRecord (cs : List Call) : List LineItem :=
  cs.filterMap fun c => match c with
    | .rxRead _ _ => none
    | .txWrite b _ _ => some (.byte b)
    | .setParity .even => some .parityOn
    | .setParity .off => some .parityOff
    | .openPort _ => some .opened
    | .closePort => some .closed

/-- R321: the fields of a data telegram. -/
structure DataTelegram where
  src      : Byte
  dst      : Byte
  readflag : Bool
  payload  : List Byte
  crc      : Byte
  deriving DecidableEq, Repr

/-- R321: the layout of a telegram of at least 6 bytes. The FCT extracts none of these fields itself. -/
def dataTelegram (t : List Byte) : Option DataTelegram :=
  match t with
  | src :: d :: rest =>
    if 6 ≤ t.length then
      rest.getLast?.map fun crc =>
        { src := src, dst := d &&& 0x7F, readflag := d.getLsbD 7, payload := rest.dropLast, crc := crc }
    else none
  | _ => none

/-- R330 to R334: the value conditions. -/
def tokenClass (b : Byte) : TokenClass :=
  if b = 0x01 then .ack
  else if b.getLsbD 7 then .assign (b.setWidth 7)
  else if 0x08 ≤ b.toNat then .release (b.setWidth 7)
  else .unknown

/-- R473: the primitives, in order, of a successful XMIT of the bytes `t`. -/
def xmitCalls (t : List Byte) : List Call :=
  t.flatMap (fun b =>
    [.txWrite b .off .ok, .rxRead .tEcho (.byte b)] ++
      if b = 0xFF then [.rxRead .tEcho (.byte 0xFF)] else []) ++
  [.setParity .even, .txWrite 0x00 .even .ok, .setParity .off,
   .rxRead .tAck (.byte 0xFF), .rxRead .tAck (.byte 0x00), .rxRead .tAck (.byte 0x00)]

/-- R473: the sequencer steps of a successful XMIT of the bytes `t`, its start step left out. -/
def xmitSteps (t : List Byte) : Nat := 2 * t.length + t.count 0xFF + 6

/-- R721: the bound, in milliseconds, on the waits of one XMIT of the bytes `t`. No step depends on it. -/
def xmitWaitBoundMs (t : List Byte) : Nat := (t.length + t.count 0xFF) * Config.tEchoMs + Config.tAckMs

end Sys2Proof.Machine
end

