-- ==== Sys2Proof/Safety.lean ====
section
/-! DEFINITION. What a safe state is (the invariant that every step keeps), and the terms claims are stated in. -/

namespace Sys2Proof.Machine

open Sys2Proof

/-- The phases of XMIT in which data bytes are still to be verified. -/
def Phase.sendsData : Phase → Bool
  | .txWrite => true
  | .txEcho1 => true
  | .txEcho2 => true
  | .off => false
  | .idle => false
  | .rxHunt => false
  | .rx => false
  | .txBrkOn => false
  | .txBrkWr => false
  | .txBrkOff => false
  | .txAck => false

/-- The phases of RECV. -/
def Phase.receives : Phase → Bool
  | .rxHunt => true
  | .rx => true
  | .off => false
  | .idle => false
  | .txWrite => false
  | .txEcho1 => false
  | .txEcho2 => false
  | .txBrkOn => false
  | .txBrkWr => false
  | .txBrkOff => false
  | .txAck => false

/-- What the spec says of the receive fields in every state (R110, R112 to R116, R402, R403). -/
structure State.RecvInv (s : State) : Prop where
  /-- R112: RXLEN never exceeds MAX_LEN. -/
  rxlen_le    : s.rxlen.toNat ≤ Config.maxLen
  /-- R113: only an append that finds `RXLEN = MAX_LEN` sets RXOVF. -/
  ovf_full    : s.rxovf = true → s.rxlen.toNat = Config.maxLen
  /-- R114, R115: a RECV that runs has neither ended nor been aborted. -/
  not_done    : s.phase.receives = true → s.rxDone = false ∧ s.rxAbort = false
  /-- R402, R415, R419, R500: outside a RECV the decoder is in state 0. -/
  ds_normal   : s.phase.receives = false → s.ds = .normal
  /-- R402, R403: the hunt runs only where RX_HUNT is true, and only before it is done. -/
  hunting     : s.phase = .rxHunt → s.params.rxHunt = true ∧ s.hunted = false

/-- What the spec says of the transmit fields in every state (R122 to R128, R450 to R472). -/
structure State.XmitInv (s : State) : Prop where
  /-- R123: TXCNT always equals TXIDX. -/
  cnt_eq_idx  : s.txcnt = s.txidx
  /-- R122: the values of TXIDX are 0..32. -/
  idx_le      : s.txidx.toNat ≤ Config.maxLen
  /-- R450, R711: the length of the telegram being sent. -/
  len_ok      : s.txBusy = true → 1 ≤ s.txlen.toNat ∧ s.txlen.toNat ≤ Config.maxLen
  /-- R457: a byte is still to be verified. -/
  idx_lt      : s.phase.sendsData = true → s.txidx.toNat < s.txlen.toNat
  /-- R460: break generation is entered only after every byte is verified. -/
  all_sent    : s.txBusy = true → s.phase.sendsData = false → s.txidx = s.txlen
  /-- R455: the second echo is awaited only for a 0xFF. -/
  second_ff   : s.phase = .txEcho2 → txByte s = some 0xFF
  /-- R125, R601: BUSYCODE exactly while an XMIT runs. -/
  code_busy   : s.txcode = .busycode ↔ s.txBusy = true
  /-- R126: an XMIT that runs has not ended. -/
  not_done    : s.txBusy = true → s.txDone = false
  /-- R465: ACKPOS is 0..2 when a byte is read. -/
  ack_lt      : s.phase = .txAck → s.ackpos.toNat < 3
  /-- R451, R461: BRKFAIL is 0 in an XMIT but for phase TX_BRK_OFF. -/
  no_brkfail  : s.txBusy = true → s.phase ≠ .txBrkOff → s.brkfail = false
  /-- R601: before any XMIT of this run TXCNT is 0. -/
  none_zero   : s.txcode = .noneYet → s.txcnt = 0

/-- What the spec says of the transport and of control in every state (R127, R130, R229). -/
structure State.ChanInv (s : State) : Prop where
  /-- R127: PAR is 1 in the phases TX_BRK_WR and TX_BRK_OFF and in no other. -/
  par_even    : s.par = .even ↔ s.phase = .txBrkWr ∨ s.phase = .txBrkOff
  /-- R127: PAR is the mode of the last `SetParity`, which is the channel's. -/
  chan_parity : s.chan.parity = s.par
  /-- R229: the transport is open exactly while `RUN = 1`. -/
  chan_open   : s.chan.isOpen = s.run
  /-- R503, R504: a stop request is pending only while `RUN = 1`. -/
  stop_run    : s.stopreq = true → s.run = true

/-- The states that the rules allow. -/
structure State.Inv (s : State) : Prop where
  recv : s.RecvInv
  xmit : s.XmitInv
  chan : s.ChanInv

/-- The state at the beginning of the sequencer's turn (R501): the inputs of the turn are taken, nothing else has
happened. -/
def State.seqTurn (s : State) : State := { s with env := useBurst s.env }

/-- The state at the beginning of a turn of the outside that does the event at the head of the tape. -/
def State.outTurn (s : State) : State :=
  { s with env := { s.env with outsideTurns := s.env.outsideTurns - 1, events := s.env.events.tail } }

/-- The sequencer has the next `n` turns. -/
def State.undisturbed (s : State) (n : Nat) : Prop :=
  s.env.outsideTurns = 0 ∧ ∃ later, s.env.bursts = List.replicate n 0 ++ later

/-- The counters of R145, in the order of their registers. -/
def State.counters (s : State) : List Counter :=
  [s.cntEsc, s.cntMark, s.cntOvf, s.cntTxTotal, s.cntTxFail]

end Sys2Proof.Machine
end

