-- ==== Sys2Proof/Certificates/Slice0/Obligations.lean ====
section
/-! DEFINITION. The statements for the provers. `s.seqTurn` is the state at the beginning of the sequencer's turn and
`s.outTurn` that of an outside turn (Safety.lean): both take their inputs from the tapes and change nothing else. -/

open Sys2Proof Sys2Proof.Machine

/-! ### Encodings -/

/-- R300 to R305, R330 to R334: no bit of an encoding is dropped. -/
def Obligations.DecodeOfEncodeIsTheInstruction : Prop :=
  ∀ i : Instr, i.wf = true → decode (encode i) = .ok i

/-- R300: each word has one meaning, and its instruction is well formed and encodes to it again. -/
def Obligations.EncodeOfDecodeIsTheWord : Prop :=
  ∀ (e : Encoded) (i : Instr), decode e = .ok i → i.wf = true ∧ encode i = e

/-- R300: the decoder is the table's, a row matching by mask and the smallest priority winning; which formats leave
words without a row. -/
def Obligations.DecoderFollowsTheOpcodeTable : Prop :=
  (∀ e : Encoded, (decode e).toOption.map Instr.mnemonic = (lookupRow e.format e.value).map Row.mnemonic) ∧
  (∀ (f : Format) (w : Nat) (r : Row), lookupRow f w = some r →
    r ∈ opcodeTable ∧ r.format = f ∧ w &&& r.mask = r.pattern ∧
      ∀ q ∈ opcodeTable, q.format = f → w &&& q.mask = q.pattern → q = r ∨ r.priority < q.priority) ∧
  (∀ w : HostWord, lookupRow .host w.toNat ≠ none) ∧
  (∀ a : Symbol, lookupRow .acksym a.toNat ≠ none) ∧
  (∀ b : Byte, lookupRow .token b.toNat ≠ none) ∧
  (∀ y : Symbol, lookupRow .rxsym y.toNat = none ↔ y.extractLsb' 8 2 = 3) ∧
  (∀ op : Byte, lookupRow .cmd op.toNat = none ↔ op ≠ 0x01 ∧ op ≠ 0x02 ∧ op ≠ 0x10 ∧ op ≠ 0x11)

/-- R301, R303, R304, R305, R331 to R334: words written out from the spec, one or more per format, and the words of
R340's host statements. -/
def Obligations.WordsOfTheSpecDecode : Prop :=
  decode (.host 0x10000000002) = .ok (.hostWrite 0x00 0x00000002) ∧
  decode (.host 0x03F00000000) = .ok (.hostRead 0x3F 0) ∧
  decode (.host 0x15F000000FF) = .ok (.hostWrite 0x5F 0xFF) ∧
  decode (.cmd 0x01) = .ok .recv ∧ decode (.cmd 0x02) = .ok .xmit ∧
  decode (.cmd 0x10) = .ok .start ∧ decode (.cmd 0x11) = .ok .stop ∧
  decode (.cmd 0x12) = .error (.reservedCommand 0x12) ∧
  decode (.rxsym 0x0FF) = .ok .s0Esc ∧ decode (.rxsym 0x0FE) = .ok (.s0Lit 0xFE) ∧
  decode (.rxsym 0x100) = .ok .s1Mark ∧ decode (.rxsym 0x1FF) = .ok .s1Ff ∧
  decode (.rxsym 0x101) = .ok (.s1Bad 0x01) ∧ decode (.rxsym 0x200) = .ok .s2Break ∧
  decode (.rxsym 0x2FF) = .ok (.s2Bad 0xFF) ∧ decode (.rxsym 0x300) = .error (.unreachableSymbol 0x300) ∧
  decode (.acksym 0x0FF) = .ok .ackB0 ∧ decode (.acksym 0x100) = .ok .ackB1 ∧
  decode (.acksym 0x200) = .ok .ackB2 ∧ decode (.acksym 0x101) = .ok (.ackBad 1 0x01) ∧
  decode (.token 0x01) = .ok .tokenAck ∧ decode (.token 0x07) = .ok (.tokenUnknown 7) ∧
  decode (.token 0x8B) = .ok (.tokenAssign 0x0B) ∧ decode (.token 0x08) = .ok (.tokenRelease 0x08) ∧
  (∀ (idx : BitVec 8) (v : BitVec 32),
    decode (.host (rd idx)) = .ok (.hostRead idx 0) ∧ decode (.host (wr idx v)) = .ok (.hostWrite idx v))

/-! ### Reset, the invariant, the step -/

/-- R160: the fields whose reset value the spec gives, and R700: no primitive performed. RXBUF and TXBUF are
unspecified, and nothing is said of them. -/
def Obligations.ResetGivesTheSpecsValues : Prop :=
  State.reset.phase = .off ∧ State.reset.ds = .normal ∧ State.reset.rxlen = 0 ∧ State.reset.rxovf = false ∧
  State.reset.rxDone = false ∧ State.reset.rxAbort = false ∧ State.reset.hunted = false ∧ State.reset.txlen = 0 ∧
  State.reset.txidx = 0 ∧ State.reset.txcnt = 0 ∧ State.reset.ackpos = 0 ∧ State.reset.txcode = .noneYet ∧
  State.reset.txDone = false ∧ State.reset.par = .off ∧ State.reset.brkfail = false ∧ State.reset.stopreq = false ∧
  State.reset.cmderr = false ∧ State.reset.startFail = false ∧ State.reset.logmask = 0 ∧ State.reset.cntEsc = 0 ∧
  State.reset.cntMark = 0 ∧ State.reset.cntOvf = 0 ∧ State.reset.cntTxTotal = 0 ∧ State.reset.cntTxFail = 0 ∧
  State.reset.chan.calls = []

/-- The invariant (R110 to R130, R229, R451 to R472) holds at reset. That the channel's transmit parity is `OFF` before any
`Open()` is the model's choice (log entry 6, DESIGN CHOICE), for the spec gives it no reset value. The other clauses follow
from R160's values, and that the transport is closed from R700 (no primitive yet) and R229. -/
def Obligations.InvariantHoldsAtReset : Prop := State.reset.Inv

/-- R110 to R130, R229, R451 to R472: every step keeps the invariant. That an `Open()` answered `OK` leaves the channel's
transmit parity `OFF`, and that the other answer and `Close()` leave it as it was, as the clause on the channel's parity
needs, is log entry 10 (DEDUCED). -/
def Obligations.StepKeepsTheInvariant : Prop :=
  ∀ s t : State, s.Inv → step s = .next t → t.Inv

/-- R600, R423: in a state the rules allow, no input byte, transport answer or host access stops the machine. -/
def Obligations.NothingStopsTheMachine : Prop :=
  ∀ s : State, s.Inv → ∃ t : State, step s = .next t

/-- A step runs the instruction that the fetched word decodes to. -/
def Obligations.StepRunsTheFetchedInstruction : Prop :=
  ∀ (s t : State) (e : Encoded) (i : Instr), fetch s = .run e t → decode e = .ok i → step s = exec i t

/-- R13, R301, R330: an outside turn runs the host word or the classification at the head of the tape. R224: or queues
the byte that arrives; that it does so in every phase, `OFF` with the transport closed included, is the model's choice
(log entry 25, DESIGN CHOICE), for the spec is silent there. That R341's wait is one event, which reads STATUS and stays
while `BUSY` reads 1, is the model's choice too (log entry 20, DESIGN CHOICE). -/
def Obligations.OutsideTurnDoesTheNextEvent : Prop :=
  ∀ (s : State) (n : Nat) (es : List Event), s.env.outsideTurns = n + 1 →
    (∀ w, s.env.events = .host w :: es → step s = exec (decodeHost w) s.outTurn) ∧
    (∀ b, s.env.events = .classify b :: es → step s = exec (decodeToken b) s.outTurn) ∧
    (∀ b, s.env.events = .arrive b :: es →
      step s = .next { s.outTurn with chan := { s.chan with stream := s.chan.stream ++ [b] } }) ∧
    (s.env.events = .wait :: es → s.busy = false → step s = exec (.hostRead 0x01 0) s.outTurn) ∧
    (s.env.events = .wait :: es → s.busy = true →
      step s = exec (.hostRead 0x01 0) { s with env := { s.env with outsideTurns := n } })

/-- R501: in OFF, and in IDLE with `STOPREQ = 0`, the sequencer has no step. That its turn is then a step of the model
which changes nothing but the tapes is log entry 24 (DEDUCED). -/
def Obligations.SequencerHasNoStepInOffAndIdle : Prop :=
  ∀ s : State, s.env.outsideTurns = 0 → s.phase = .off ∨ (s.phase = .idle ∧ s.stopreq = false) →
    step s = .next s.seqTurn

/-- R501: weak fairness. The sequencer's turn comes once the outside has had its finitely many turns, and nothing
the outside does in them stops the machine. -/
def Obligations.SequencerTurnComes : Prop :=
  ∀ s : State, ∃ t : State, Sys2Proof.core.run s.env.outsideTurns s = .next t ∧ t.env.outsideTurns = 0

/-- Log entry 11 (the model's choice): a word placed by `placeFetched` is run by the very next step, a host word, a
command or a token in the state as it was, a symbol with both buffers, their lengths and the counters as they were. -/
def Obligations.PlacedWordIsRunNext : Prop :=
  ∀ (s : State) (e : Encoded) (i : Instr), decode e = .ok i →
    ∃ t : State, step (placeFetched e s) = exec i t ∧
      match e with
      | .host _ => t = s
      | .cmd _ => t = s
      | .token _ => t = s
      | .rxsym y => t.phase = .rx ∧ dsCode t.ds = y.extractLsb' 8 2 ∧ t.rxbuf = s.rxbuf ∧ t.rxlen = s.rxlen ∧
          t.rxovf = s.rxovf ∧ t.txbuf = s.txbuf ∧ t.txlen = s.txlen ∧ t.counters = s.counters ∧
          t.chan.stream = s.chan.stream
      | .acksym y => t.phase = .txAck ∧ t.ackpos = y.extractLsb' 8 2 ∧ t.txcode = s.txcode ∧ t.rxbuf = s.rxbuf ∧
          t.rxlen = s.rxlen ∧ t.rxovf = s.rxovf ∧ t.txbuf = s.txbuf ∧ t.txlen = s.txlen ∧ t.counters = s.counters ∧
          t.chan.stream = s.chan.stream

/-! ### Host registers -/

/-- R510, R206: a read answers the register and has no side effect, whatever `VAL` the word carries. That the answer is kept
in a list of the state is log entry 19 (DESIGN CHOICE). -/
def Obligations.HostReadAnswersTheRegister : Prop :=
  ∀ (idx : BitVec 8) (val : BitVec 32) (s : State),
    exec (.hostRead idx val) s = .next { s with replies := s.replies ++ [.reg (readReg idx s)] }

/-- R150 (read side), R102: the layout of every register, bit by bit from the most significant one. -/
def Obligations.RegistersHaveTheirLayout : Prop :=
  ∀ s : State,
    readReg 0x00 s = 0 ∧
    readReg 0x01 s = (0 : BitVec 24) ++ BitVec.ofBool (decide (s.par = .even)) ++ BitVec.ofBool s.startFail ++
      BitVec.ofBool s.cmderr ++ BitVec.ofBool s.stopreq ++ BitVec.ofBool s.txDone ++ BitVec.ofBool s.rxDone ++
      BitVec.ofBool (decide (s.phase ≠ .off ∧ s.phase ≠ .idle)) ++ BitVec.ofBool (decide (s.phase ≠ .off)) ∧
    readReg 0x02 s = (0 : BitVec 22) ++ BitVec.ofBool s.rxAbort ++ BitVec.ofBool s.rxovf ++ (0 : BitVec 2) ++ s.rxlen ∧
    readReg 0x03 s = (0 : BitVec 26) ++ s.txlen ∧
    readReg 0x04 s = (0 : BitVec 20) ++ txCodeBits s.txcode ++ (0 : BitVec 2) ++ s.txcnt ∧
    readReg 0x05 s = (0 : BitVec 26) ++ s.logmask ∧
    readReg 0x06 s = (0 : BitVec 16) ++ BitVec.ofBool s.brkfail ++ BitVec.ofBool s.hunted ++ s.txidx ++ s.ackpos ++
      dsCode s.ds ++ phaseCode s.phase ∧
    readReg 0x08 s = s.cntEsc ∧ readReg 0x09 s = s.cntMark ∧ readReg 0x0A s = s.cntOvf ∧
    readReg 0x0B s = s.cntTxTotal ∧ readReg 0x0C s = s.cntTxFail ∧
    (∀ i : Fin 32, readReg (0x20 + BitVec.ofNat 8 i) s = (0 : BitVec 24) ++ s.rxbuf[i]) ∧
    (∀ i : Fin 32, readReg (0x40 + BitVec.ofNat 8 i) s = (0 : BitVec 24) ++ s.txbuf[i]) ∧
    (∀ idx : BitVec 8, idx = 0x07 ∨ (0x0D ≤ idx ∧ idx ≤ 0x1F) ∨ 0x60 ≤ idx → readReg idx s = 0)

/-- R511: writes of TXLENR and TXB[j], and their rejection while `TXBUSY = 1`, which it is outside the four phases
in which the writes are accepted. -/
def Obligations.WritesOfLengthAndBuffer : Prop :=
  ∀ (s : State) (v : BitVec 32) (j : Fin 32),
    (s.txBusy = false ↔ s.phase ∈ [.off, .idle, .rxHunt, .rx]) ∧
    (s.txBusy = false →
      exec (.hostWrite 0x03 v) s = .next { s with txlen := v.extractLsb' 0 6 } ∧
      exec (.hostWrite (0x40 + BitVec.ofNat 8 j) v) s = .next { s with txbuf := s.txbuf.set j (v.extractLsb' 0 8) }) ∧
    (s.txBusy = true →
      exec (.hostWrite 0x03 v) s = .next { s with cmderr := true } ∧
      exec (.hostWrite (0x40 + BitVec.ofNat 8 j) v) s = .next { s with cmderr := true })

/-- R512: LOGMASK is written in any phase, and a write of it changes nothing else. -/
def Obligations.WriteOfLogmask : Prop :=
  ∀ (s : State) (v : BitVec 32), exec (.hostWrite 0x05 v) s = .next { s with logmask := v.extractLsb' 0 6 }

/-- R302: a write of CMD is the command of `VAL[7:0]`, whatever `VAL[31:8]` is. -/
def Obligations.CommandIsTheLowByteOfTheValue : Prop :=
  ∀ (s : State) (v : BitVec 32),
    (v.extractLsb' 0 8 = 0x01 → exec (.hostWrite 0x00 v) s = exec .recv s) ∧
    (v.extractLsb' 0 8 = 0x02 → exec (.hostWrite 0x00 v) s = exec .xmit s) ∧
    (v.extractLsb' 0 8 = 0x10 → exec (.hostWrite 0x00 v) s = exec .start s) ∧
    (v.extractLsb' 0 8 = 0x11 → exec (.hostWrite 0x00 v) s = exec .stop s)

/-- R505: in each of its six cases a host write sets CMDERR and does nothing else. -/
def Obligations.RejectedWritesSetCmderrOnly : Prop :=
  ∀ (s : State) (idx : BitVec 8) (v : BitVec 32),
    (idx = 0x00 ∧ v.extractLsb' 0 8 ∉ [0x01, 0x02, 0x10, 0x11]) ∨
    (idx = 0x00 ∧ v.extractLsb' 0 8 = 0x01 ∧ ¬ (s.phase = .idle ∧ s.stopreq = false)) ∨
    (idx = 0x00 ∧ v.extractLsb' 0 8 = 0x02 ∧
      ¬ (s.phase = .idle ∧ s.stopreq = false ∧ 1 ≤ s.txlen.toNat ∧ s.txlen.toNat ≤ 32)) ∨
    (idx = 0x00 ∧ v.extractLsb' 0 8 = 0x10 ∧ s.phase ≠ .off) ∨
    (idx = 0x00 ∧ v.extractLsb' 0 8 = 0x11 ∧ s.phase = .off) ∨
    (idx ∉ [0x00, 0x03, 0x05] ∧ ¬ (0x40 ≤ idx ∧ idx < 0x60)) ∨
    ((idx = 0x03 ∨ (0x40 ≤ idx ∧ idx < 0x60)) ∧ s.txBusy = true) →
    exec (.hostWrite idx v) s = .next { s with cmderr := true }

/-- R506: only an accepted CMD write clears CMDERR. -/
def Obligations.CmderrIsSticky : Prop :=
  ∀ s t : State, s.cmderr = true → step s = .next t → t.cmderr = false →
    ∃ (w : HostWord) (v : BitVec 32) (u : State),
      fetch s = .run (.host w) u ∧ decodeHost w = .hostWrite 0x00 v ∧
      ((v.extractLsb' 0 8 = 0x01 ∧ s.phase = .idle ∧ s.stopreq = false) ∨
       (v.extractLsb' 0 8 = 0x02 ∧ s.phase = .idle ∧ s.stopreq = false ∧ 1 ≤ s.txlen.toNat ∧ s.txlen.toNat ≤ 32) ∨
       (v.extractLsb' 0 8 = 0x10 ∧ s.phase = .off) ∨
       (v.extractLsb' 0 8 = 0x11 ∧ s.phase ≠ .off))

/-! ### Commands -/

/-- R401, R402: RECV. -/
def Obligations.RecvStartsOrIsRejected : Prop :=
  ∀ s : State,
    (s.phase = .idle ∧ s.stopreq = false →
      exec .recv s = .next { s with
        cmderr := false, rxDone := false, rxAbort := false, ds := .normal, rxlen := 0, rxovf := false,
        phase := if s.params.rxHunt = true ∧ s.hunted = false then .rxHunt else .rx }) ∧
    (¬ (s.phase = .idle ∧ s.stopreq = false) → exec .recv s = .next { s with cmderr := true })

/-- R451, and R450's acceptance: XMIT. -/
def Obligations.XmitStartsOrIsRejected : Prop :=
  ∀ s : State,
    (s.phase = .idle ∧ s.stopreq = false ∧ 1 ≤ s.txlen.toNat ∧ s.txlen.toNat ≤ 32 →
      exec .xmit s = .next { s with
        cmderr := false, txDone := false, txidx := 0, txcnt := 0, ackpos := 0, brkfail := false, txcode := .busycode,
        cntTxTotal := s.cntTxTotal + 1, phase := .txWrite }) ∧
    (¬ (s.phase = .idle ∧ s.stopreq = false ∧ 1 ≤ s.txlen.toNat ∧ s.txlen.toNat ≤ 32) →
      exec .xmit s = .next { s with cmderr := true })

/-- R500: START, whichever way `Open()` answers, and its encoding. That an `Open()` answered `OK` leaves transmit parity
`OFF`, and one answered `FAIL` leaves it as it was, is log entry 10 (DEDUCED; for `OK` the spec's own inference D23). That
the queued bytes survive an `Open()`, however answered, is log entry 7 (DEDUCED, from R224). -/
def Obligations.StartOpensOrFailsOrIsRejected : Prop :=
  ∀ s : State,
    (s.phase = .off → openAnswer s = .ok →
      exec .start s = .next { s with
        cmderr := false, startFail := false, ds := .normal, rxlen := 0, rxovf := false, rxDone := false,
        rxAbort := false, hunted := false, txidx := 0, txcnt := 0, ackpos := 0, brkfail := false, txDone := false,
        txcode := .noneYet, phase := .idle, env := useOpen s.env,
        chan := { s.chan with isOpen := true, parity := .off, calls := s.chan.calls ++ [.openPort .ok] } }) ∧
    (s.phase = .off → openAnswer s = .fail →
      exec .start s = .next { s with
        cmderr := false, startFail := true, env := useOpen s.env,
        chan := { s.chan with calls := s.chan.calls ++ [.openPort .fail] } }) ∧
    (s.phase ≠ .off → exec .start s = .next { s with cmderr := true }) ∧
    exec (.hostWrite 0x00 0x10) s = exec .start s

/-- R503: STOP, and its encoding. -/
def Obligations.StopRequestsOrIsRejected : Prop :=
  ∀ s : State,
    (s.phase ≠ .off → exec .stop s = .next { s with cmderr := false, stopreq := true }) ∧
    (s.phase = .off → exec .stop s = .next { s with cmderr := true }) ∧
    exec (.hostWrite 0x00 0x11) s = exec .stop s

/-- R504, R229: the stop cleanup releases the transport. That `Close()` leaves the transmit parity as it was is log entry
10 (DEDUCED), and that it leaves the queued bytes is log entry 7 (DEDUCED, from R224). -/
def Obligations.StopCleanupReleasesTheTransport : Prop :=
  ∀ s : State, s.env.outsideTurns = 0 → s.phase = .idle → s.stopreq = true →
    step s = .next { s.seqTurn with
      phase := .off, stopreq := false,
      chan := { s.chan with isOpen := false, calls := s.chan.calls ++ [.closePort] } }

/-! ### Receive -/

/-- R410, R412: the symbols that only move the decoder. That they do so in phases in which no step forms them as well is
log entry 17 (DESIGN CHOICE). -/
def Obligations.EscapeAndMarkerSymbols : Prop :=
  ∀ s : State,
    exec .s0Esc s = .next { s with ds := .sawFF } ∧ exec .s1Mark s = .next { s with ds := .marked }

/-- R411, R414, R417: the symbols that append, with room, on overflow and after it. -/
def Obligations.AppendingSymbols : Prop :=
  ∀ (s : State) (i : Instr) (v : Byte), s.phase = .rx → (i = .s0Lit v ∨ (i = .s1Ff ∧ v = 0xFF)) →
    (s.rxlen.toNat < 32 →
      exec i s = .next { s with
        ds := .normal, rxbuf := s.rxbuf.setIfInBounds s.rxlen.toNat v, rxlen := s.rxlen + 1 }) ∧
    (32 ≤ s.rxlen.toNat → s.rxovf = false →
      exec i s = .next { s with
        ds := .normal, rxovf := true, cntOvf := s.cntOvf + 1,
        sink := if s.logmask.getLsbD 0 then s.sink ++ [(.error, .overflow)] else s.sink }) ∧
    (32 ≤ s.rxlen.toNat → s.rxovf = true → exec i s = .next { s with ds := .normal })

/-- R413, R416: the anomalies are counted and traced, and nothing is appended. -/
def Obligations.AnomalySymbols : Prop :=
  ∀ (s : State) (b : Byte), s.phase = .rx →
    exec (.s1Bad b) s = .next { s with
      ds := .normal, cntEsc := s.cntEsc + 1,
      sink := if s.logmask.getLsbD 0 then s.sink ++ [(.error, .byte b)] else s.sink } ∧
    exec (.s2Bad b) s = .next { s with
      ds := .normal, cntMark := s.cntMark + 1,
      sink := if s.logmask.getLsbD 0 then s.sink ++ [(.error, .byte b)] else s.sink }

/-- R415: the break completes the telegram. -/
def Obligations.BreakSymbolCompletesTheTelegram : Prop :=
  ∀ s : State, s.phase = .rx →
    exec .s2Break s = .next { s with
      ds := .normal, rxDone := true, phase := .idle,
      sink := if s.logmask.getLsbD 3 then s.sink ++ [(.packetDump, .telegram (s.rxbuf.toList.take s.rxlen.toNat))]
        else s.sink }

/-- R403: in the hunt a symbol moves the decoder, appends nothing and counts nothing; the break ends the hunt. That an
anomaly there traces nothing either is log entry 18 (DEDUCED), from R403's pseudocode. -/
def Obligations.HuntSymbols : Prop :=
  ∀ (s : State) (b : Byte), s.phase = .rxHunt →
    exec .s0Esc s = .next { s with ds := .sawFF } ∧
    exec (.s0Lit b) s = .next { s with ds := .normal } ∧
    exec .s1Mark s = .next { s with ds := .marked } ∧
    exec .s1Ff s = .next { s with ds := .normal } ∧
    exec (.s1Bad b) s = .next { s with ds := .normal } ∧
    exec .s2Break s = .next { s with ds := .normal, hunted := true, phase := .rx } ∧
    exec (.s2Bad b) s = .next { s with ds := .normal }

/-- R403, R404: a step in a receive phase reads exactly one byte, traces it in RX, and runs the transition of the symbol
it forms. That the byte is not traced in the hunt is log entry 18 (DEDUCED), from R403's pseudocode. -/
def Obligations.ReceiveStepReadsOneByte : Prop :=
  ∀ (s : State) (b : Byte) (q : List Byte),
    s.env.outsideTurns = 0 → s.phase = .rx ∨ s.phase = .rxHunt → s.stopsAtRead = false → s.chan.stream = b :: q →
    ∃ i : Instr, decode (.rxsym (dsCode s.ds ++ b)) = .ok i ∧
      step s = exec i { s.seqTurn with
        chan := { s.chan with stream := q, calls := s.chan.calls ++ [.rxRead .inf (.byte b)] },
        sink := if s.phase = .rx ∧ s.logmask.getLsbD 5 then s.sink ++ [(.byteTrace, .byte b)] else s.sink }

/-- R405: the transition that runs for a decoder state and a byte is `decode_step`'s, whose table is this. -/
def Obligations.TransitionsFollowDecodeStep : Prop :=
  ∀ (s : State) (b : Byte),
    decodeStep .normal b = (if b = 0xFF then (.sawFF, .none) else (.normal, .append b)) ∧
    decodeStep .sawFF b =
      (if b = 0x00 then (.marked, .none) else if b = 0xFF then (.normal, .append 0xFF) else (.normal, .escAnomaly)) ∧
    decodeStep .marked b = (if b = 0x00 then (.normal, .break) else (.normal, .markAnomaly)) ∧
    (s.phase = .rx → ∃ (i : Instr) (t : State), decode (.rxsym (dsCode s.ds ++ b)) = .ok i ∧ exec i s = .next t ∧
      t.ds = (decodeStep s.ds b).1 ∧
      match (decodeStep s.ds b).2 with
      | .none => t = { s with ds := (decodeStep s.ds b).1 }
      | .append v => t = { append v s with ds := .normal }
      | .escAnomaly => t = { escAnomaly b s with ds := .normal }
      | .markAnomaly => t = { markAnomaly b s with ds := .normal }
      | .break => t = completeTelegram { s with ds := .normal })

/-- R419: with STOP_AT_READ a pending stop ends a RECV at a read boundary, without a read; with STOP_AT_READ false only
the break symbol read in RX ends it. With nothing queued the RECV waits (R224), and without STOP_AT_READ a pending stop
does not end the wait (R715); that the waiting turn is a step which changes nothing else is log entry 24 (DEDUCED). -/
def Obligations.StopEndsRecvAtReadBoundary : Prop :=
  ∀ s : State, s.env.outsideTurns = 0 → s.phase = .rx ∨ s.phase = .rxHunt →
    (s.params.stopAtRead = true → s.stopreq = true →
      step s = .next { s.seqTurn with rxAbort := true, ds := .normal, phase := .idle }) ∧
    (∀ t : State, s.params.stopAtRead = false → step s = .next t → t.phase ≠ .rx → t.phase ≠ .rxHunt →
      t.phase = .idle ∧ t.rxDone = true ∧ s.phase = .rx ∧ s.ds = .marked ∧ s.chan.stream.head? = some 0x00) ∧
    (s.params.stopAtRead = false ∨ s.stopreq = false → s.chan.stream = [] → step s = .next s.seqTurn)

/-- R422: the break is recognised from decoder state 0, whatever is buffered, and from no other state. -/
def Obligations.BreakIsRecognisedFromStateZero : Prop :=
  ∀ (s : State) (q : List Byte),
    s.undisturbed 3 → s.phase = .rx → s.stopsAtRead = false → s.chan.stream = [0xFF, 0x00, 0x00] ++ q →
    ∃ t : State, Sys2Proof.core.run 3 s = .next t ∧ t.chan.stream = q ∧ t.ds = .normal ∧
      (s.ds = .normal → t.phase = .idle ∧ t.rxDone = true ∧ t.rxbuf = s.rxbuf ∧ t.rxlen = s.rxlen ∧ t.rxovf = s.rxovf) ∧
      (s.ds = .sawFF → t.phase = .rx ∧ t.rxDone = s.rxDone ∧ t.cntMark = s.cntMark ∧
        (s.rxlen.toNat + 3 ≤ 32 →
          t.rxlen.toNat = s.rxlen.toNat + 3 ∧ rxTelegram t = rxTelegram s ++ [0xFF, 0x00, 0x00])) ∧
      (s.ds = .marked → t.phase = .rx ∧ t.rxDone = s.rxDone ∧ t.cntMark = s.cntMark + 1 ∧
        (s.rxlen.toNat + 2 ≤ 32 →
          t.rxlen.toNat = s.rxlen.toNat + 2 ∧ rxTelegram t = rxTelegram s ++ [0x00, 0x00]))

/-- R421: decoding the marked form of a telegram of at most MAX_LEN bytes gives the telegram and consumes exactly
that form. (Where RECV begins with the hunt, `HuntDiscardsUpToTheFirstBreak` says what happens.) -/
def Obligations.DecodingTheMarkedFormGivesTheTelegram : Prop :=
  ∀ (s : State) (B rest : List Byte),
    B.length ≤ 32 → s.phase = .idle → s.stopreq = false → s.mustHunt = false →
    s.undisturbed (markedForm B).length → s.chan.stream = markedForm B ++ rest →
    ∃ t0 t : State, exec .recv s = .next t0 ∧ Sys2Proof.core.run (markedForm B).length t0 = .next t ∧
      t.phase = .idle ∧ rxTelegram t = B ∧ t.rxlen.toNat = B.length ∧ t.rxovf = false ∧ t.rxDone = true ∧
      t.ds = .normal ∧ t.chan.stream = rest ∧ t.counters = s.counters

/-- R403: a RECV that begins with the hunt discards whatever line events come before the first break, errored bytes
included, counts none of them, and then decodes the next telegram. -/
def Obligations.HuntDiscardsUpToTheFirstBreak : Prop :=
  ∀ (s : State) (A : List LineEvent) (B rest : List Byte),
    B.length ≤ 32 → s.phase = .idle → s.stopreq = false → s.mustHunt = true → lineBreak ∉ A →
    s.undisturbed ((markAll (A ++ [lineBreak])).length + (markedForm B).length) →
    s.chan.stream = markAll (A ++ [lineBreak]) ++ markedForm B ++ rest →
    ∃ t0 t : State, exec .recv s = .next t0 ∧
      Sys2Proof.core.run ((markAll (A ++ [lineBreak])).length + (markedForm B).length) t0 = .next t ∧
      t.phase = .idle ∧ rxTelegram t = B ∧ t.rxDone = true ∧ t.hunted = true ∧ t.ds = .normal ∧
      t.chan.stream = rest ∧ t.counters = s.counters

/-- R111, R202: RXBUF changes only by an append in phase RX, in the byte that RXLEN names. -/
def Obligations.OnlyAppendWritesRxbuf : Prop :=
  ∀ (s t : State) (j : Fin 32), step s = .next t → t.rxbuf[j] ≠ s.rxbuf[j] →
    s.env.outsideTurns = 0 ∧ s.phase = .rx ∧ s.rxlen.toNat = j ∧ t.rxlen = s.rxlen + 1

/-- R424: what the counters do in one step of a RECV. -/
def Obligations.ReceiveStepsMoveTheirCounters : Prop :=
  ∀ (s t : State) (b : Byte) (q : List Byte),
    s.env.outsideTurns = 0 → s.stopsAtRead = false → s.chan.stream = b :: q → step s = .next t →
    (s.phase = .rxHunt → t.counters = s.counters) ∧
    (s.phase = .rx →
      t.cntEsc = (if s.ds = .sawFF ∧ b ≠ 0x00 ∧ b ≠ 0xFF then s.cntEsc + 1 else s.cntEsc) ∧
      t.cntMark = (if s.ds = .marked ∧ b ≠ 0x00 then s.cntMark + 1 else s.cntMark) ∧
      ((t.cntOvf = s.cntOvf ∧ t.rxovf = s.rxovf) ∨ (t.cntOvf = s.cntOvf + 1 ∧ s.rxovf = false ∧ t.rxovf = true)) ∧
      t.cntTxTotal = s.cntTxTotal ∧ t.cntTxFail = s.cntTxFail)

/-! ### Transmit -/

/-- R470: the end of an XMIT, with any code. -/
def Obligations.EndOfXmit : Prop :=
  ∀ (s : State) (code : TxCode), finishTx code s =
    { s with
      txcode := code, txDone := true, phase := .idle,
      cntTxFail := if code = .ok then s.cntTxFail else s.cntTxFail + 1,
      sink := if code ≠ .ok ∧ s.logmask.getLsbD 0 then s.sink ++ [(.error, .code code)] else s.sink }

/-- R224: a bounded read returns the oldest byte and consumes it, or `TIMEOUT` and consumes nothing. That it is
`TIMEOUT` when nothing is queued is the model's choice (log entry 9). -/
def Obligations.BoundedReadReturnsByteOrTimeout : Prop :=
  ∀ (s : State) (k : Bound) (b : Byte) (q : List Byte),
    (s.chan.stream = [] → boundedAnswer s = .timeout ∧
      rxReadBounded k s = { s with chan := { s.chan with calls := s.chan.calls ++ [.rxRead k .timeout] } }) ∧
    (s.chan.stream = b :: q → timeoutDrawn s = true → boundedAnswer s = .timeout ∧
      rxReadBounded k s = { s with
        env := useTimeout s.env, chan := { s.chan with calls := s.chan.calls ++ [.rxRead k .timeout] } }) ∧
    (s.chan.stream = b :: q → timeoutDrawn s = false → boundedAnswer s = .byte b ∧
      rxReadBounded k s = { s with
        env := useTimeout s.env,
        chan := { s.chan with stream := q, calls := s.chan.calls ++ [.rxRead k (.byte b)] } })

/-- R452: the step in TX_WRITE. -/
def Obligations.WriteStep : Prop :=
  ∀ (s : State) (b : Byte), s.env.outsideTurns = 0 → s.phase = .txWrite → s.txbuf[s.txidx.toNat]? = some b →
    ∃ u : State,
      u = { s with
        env := useWrite (useBurst s.env),
        chan := { s.chan with calls := s.chan.calls ++ [.txWrite b s.chan.parity (writeAnswer s.seqTurn)] },
        sink := if s.logmask.getLsbD 5 then s.sink ++ [(.byteTrace, .byte b)] else s.sink } ∧
      (writeAnswer s.seqTurn = .ok → step s = .next { u with phase := .txEcho1 }) ∧
      (writeAnswer s.seqTurn = .fail → step s = .next (finishTx .wrfail u))

/-- R453, R454, R455, R457: the step in TX_ECHO1. -/
def Obligations.FirstEchoStep : Prop :=
  ∀ (s : State) (b e : Byte), s.env.outsideTurns = 0 → s.phase = .txEcho1 → s.txbuf[s.txidx.toNat]? = some b →
    (boundedAnswer s.seqTurn = .timeout → step s = .next (finishTx .echoTimeout (rxReadBounded .tEcho s.seqTurn))) ∧
    (boundedAnswer s.seqTurn = .byte e → e ≠ b →
      step s = .next (finishTx .echoMismatch (rxReadBounded .tEcho s.seqTurn))) ∧
    (boundedAnswer s.seqTurn = .byte e → e = b → b = 0xFF →
      step s = .next { rxReadBounded .tEcho s.seqTurn with phase := .txEcho2 }) ∧
    (boundedAnswer s.seqTurn = .byte e → e = b → b ≠ 0xFF →
      step s = .next { rxReadBounded .tEcho s.seqTurn with
        txcnt := s.txcnt + 1, txidx := s.txidx + 1,
        phase := if (s.txidx + 1).toNat < s.txlen.toNat then .txWrite else .txBrkOn })

/-- R456, R457: the step in TX_ECHO2. -/
def Obligations.SecondEchoStep : Prop :=
  ∀ (s : State) (e : Byte), s.env.outsideTurns = 0 → s.phase = .txEcho2 →
    (boundedAnswer s.seqTurn = .timeout → step s = .next (finishTx .echo2Timeout (rxReadBounded .tEcho s.seqTurn))) ∧
    (boundedAnswer s.seqTurn = .byte e → e ≠ 0xFF →
      step s = .next (finishTx .echo2Mismatch (rxReadBounded .tEcho s.seqTurn))) ∧
    (boundedAnswer s.seqTurn = .byte e → e = 0xFF →
      step s = .next { rxReadBounded .tEcho s.seqTurn with
        txcnt := s.txcnt + 1, txidx := s.txidx + 1,
        phase := if (s.txidx + 1).toNat < s.txlen.toNat then .txWrite else .txBrkOn })

/-- R460, R461, R462: the three steps of break generation; parity is restored even when the zero byte was refused. -/
def Obligations.BreakGenerationSteps : Prop :=
  ∀ s : State, s.env.outsideTurns = 0 →
    (s.phase = .txBrkOn →
      step s = .next { s.seqTurn with
        par := .even, phase := .txBrkWr,
        chan := { s.chan with parity := .even, calls := s.chan.calls ++ [.setParity .even] } }) ∧
    (s.phase = .txBrkWr →
      step s = .next { s with
        env := useWrite (useBurst s.env), brkfail := decide (writeAnswer s.seqTurn = .fail), phase := .txBrkOff,
        chan := { s.chan with calls := s.chan.calls ++ [.txWrite 0x00 s.chan.parity (writeAnswer s.seqTurn)] } }) ∧
    (s.phase = .txBrkOff → s.brkfail = false →
      step s = .next { s.seqTurn with
        par := .off, ackpos := 0, phase := .txAck,
        chan := { s.chan with parity := .off, calls := s.chan.calls ++ [.setParity .off] } }) ∧
    (s.phase = .txBrkOff → s.brkfail = true →
      step s = .next (finishTx .brkWrfail { s.seqTurn with
        par := .off, chan := { s.chan with parity := .off, calls := s.chan.calls ++ [.setParity .off] } }))

/-- R465: the meanings of the acknowledgment symbols. That they are the same in phases in which no step forms them is log
entry 17 (DESIGN CHOICE). -/
def Obligations.AcknowledgmentSymbols : Prop :=
  ∀ (s : State) (pos : BitVec 2) (a : Byte),
    (s.ackpos = 0 → exec .ackB0 s = .next { s with ackpos := 1 }) ∧
    (s.ackpos = 1 → exec .ackB1 s = .next { s with ackpos := 2 }) ∧
    (s.ackpos = 2 → exec .ackB2 s = .next (finishTx .ok { s with ackpos := 3 })) ∧
    exec (.ackBad pos a) s = .next (finishTx .ackMismatch s)

/-- R465: the step in TX_ACK, against the bytes of ACK_SEQ. -/
def Obligations.AcknowledgmentStep : Prop :=
  ∀ (s : State) (a : Byte), s.env.outsideTurns = 0 → s.phase = .txAck → s.ackpos.toNat < 3 →
    (boundedAnswer s.seqTurn = .timeout → step s = .next (finishTx .ackTimeout (rxReadBounded .tAck s.seqTurn))) ∧
    (boundedAnswer s.seqTurn = .byte a → ([0xFF, 0x00, 0x00] : List Byte)[s.ackpos.toNat]? ≠ some a →
      step s = .next (finishTx .ackMismatch (rxReadBounded .tAck s.seqTurn))) ∧
    (boundedAnswer s.seqTurn = .byte a → ([0xFF, 0x00, 0x00] : List Byte)[s.ackpos.toNat]? = some a →
      (s.ackpos.toNat < 2 → step s = .next { rxReadBounded .tAck s.seqTurn with ackpos := s.ackpos + 1 }) ∧
      (s.ackpos.toNat = 2 →
        step s = .next (finishTx .ok { rxReadBounded .tAck s.seqTurn with ackpos := s.ackpos + 1 })))

/-- R472, R601, R462: what an XMIT leaves when it ends, by its code. -/
def Obligations.CodesSayHowFarAnXmitCame : Prop :=
  ∀ s t : State, s.Inv → s.txBusy = true → step s = .next t → t.txBusy = false →
    t.phase = .idle ∧ t.txDone = true ∧ t.par = .off ∧ t.txlen = s.txlen ∧ t.txidx = t.txcnt ∧
    ((t.txcode = .ok ∧ t.txcnt = t.txlen ∧ t.ackpos = 3) ∨
     (t.txcode ∈ [.wrfail, .echoTimeout, .echoMismatch, .echo2Timeout, .echo2Mismatch] ∧
      t.txcnt.toNat < t.txlen.toNat) ∨
     (t.txcode ∈ [.brkWrfail, .ackTimeout, .ackMismatch] ∧ t.txcnt = t.txlen))

/-- R473: the primitives of a successful XMIT, in order, and the number of its steps. The working bus returns the
marked form of the telegram and of the break. -/
def Obligations.SuccessfulXmitIssuesItsPrimitivesInOrder : Prop :=
  ∀ (s : State) (T rest : List Byte) (w : List Answer) (o : List Bool),
    s.Inv → s.phase = .idle → s.stopreq = false → 1 ≤ s.txlen.toNat → s.txlen.toNat ≤ 32 → T = txTelegram s →
    s.undisturbed (2 * T.length + T.count 0xFF + 6) →
    s.env.writes = List.replicate (T.length + 1) .ok ++ w →
    s.env.timeouts = List.replicate (markedForm T).length false ++ o →
    s.chan.stream = markedForm T ++ rest →
    ∃ t0 t : State, exec .xmit s = .next t0 ∧
      Sys2Proof.core.run (2 * T.length + T.count 0xFF + 6) t0 = .next t ∧
      t.chan.calls = s.chan.calls ++ xmitCalls T ∧ t.chan.stream = rest ∧
      t.phase = .idle ∧ t.txcode = .ok ∧ t.txDone = true ∧ t.txcnt = s.txlen ∧ t.ackpos = 3 ∧ t.par = .off ∧
      t.cntTxTotal = s.cntTxTotal + 1 ∧ t.cntTxFail = s.cntTxFail

/-- R475, R221, R222: a successful XMIT puts the line form of the telegram on the line, and a receiver that marks it
sees the marked form. -/
def Obligations.LineFormOfAnXmitIsMarkedBack : Prop :=
  ∀ T : List Byte,
    lineOf (xmitCalls T) = T.map (fun b => (b, Parity.off)) ++ [(0x00, Parity.even)] ∧
    markAll ((lineOf (xmitCalls T)).map receivedAs) = markedForm T

/-- R222: the marked bytes of the four line events. -/
def Obligations.MarkedBytesOfLineEvents : Prop :=
  ∀ b x : Byte,
    (b ≠ 0xFF → mark (.good b) = [b]) ∧ mark (.good 0xFF) = [0xFF, 0xFF] ∧
    (x ≠ 0x00 → mark (.errored x) = [0xFF, 0x00, x]) ∧ mark lineBreak = [0xFF, 0x00, 0x00]

/-- R476: the transmit counters over every step, and no receive counter in an XMIT. -/
def Obligations.TransmitCountersCountXmits : Prop :=
  ∀ s t : State, step s = .next t →
    t.cntTxTotal = (if s.txBusy = false ∧ t.txBusy = true then s.cntTxTotal + 1 else s.cntTxTotal) ∧
    t.cntTxFail = (if s.txBusy = true ∧ t.txBusy = false ∧ t.txcode ≠ .ok then s.cntTxFail + 1 else s.cntTxFail) ∧
    (s.txBusy = true → t.cntEsc = s.cntEsc ∧ t.cntMark = s.cntMark ∧ t.cntOvf = s.cntOvf)

/-! ### Tokens and telegrams -/

/-- R331 to R334: the instruction of each token class answers the class and changes nothing else. That the answer is kept
in a list of the state is log entry 19 (DESIGN CHOICE). -/
def Obligations.TokenInstructionsAnswerTheirClass : Prop :=
  ∀ (s : State) (low : BitVec 3) (id : BitVec 7),
    exec .tokenAck s = .next { s with replies := s.replies ++ [.token .ack] } ∧
    exec (.tokenUnknown low) s = .next { s with replies := s.replies ++ [.token .unknown] } ∧
    exec (.tokenAssign id) s = .next { s with replies := s.replies ++ [.token (.assign id)] } ∧
    exec (.tokenRelease id) s = .next { s with replies := s.replies ++ [.token (.release id)] }

/-- R330 to R334: the class of every byte, by its value. That the instruction keeps it in the state's list of answers is
log entry 19 (DESIGN CHOICE). -/
def Obligations.TokenClassOfEveryByte : Prop :=
  ∀ (s : State) (b : Byte), ∃ (i : Instr) (c : TokenClass),
    decode (.token b) = .ok i ∧ exec i s = .next { s with replies := s.replies ++ [.token c] } ∧ tokenClass b = c ∧
    (b = 0x01 → c = .ack) ∧
    (0x80 ≤ b → c = .assign ((b &&& 0x7F).setWidth 7)) ∧
    (0x08 ≤ b → b ≤ 0x7F → c = .release (b.setWidth 7)) ∧
    (b = 0x00 ∨ (0x02 ≤ b ∧ b ≤ 0x07) → c = .unknown)

/-- R321: the layout of a data telegram, and that a shorter one has none. -/
def Obligations.DataTelegramLayout : Prop :=
  ∀ (src d crc : Byte) (p t : List Byte),
    (3 ≤ p.length → dataTelegram ([src, d] ++ p ++ [crc]) =
      some { src := src, dst := d &&& 0x7F, readflag := d.getLsbD 7, payload := p, crc := crc }) ∧
    (t.length < 6 → dataTelegram t = none)

/-! ### Rules of the whole machine -/

/-- R13, R229, R471: a step performs at most one transport primitive, and each only in its phase: `Open` in a host
step of phase OFF, `Close` in the cleanup, the break's primitives only after every byte was verified. -/
def Obligations.OnePrimitivePerStepInItsPhase : Prop :=
  ∀ s t : State, step s = .next t →
    t.chan.calls = s.chan.calls ∨
    ∃ c : Call, t.chan.calls = s.chan.calls ++ [c] ∧
      match c with
      | .rxRead .inf _ => s.env.outsideTurns = 0 ∧ (s.phase = .rx ∨ s.phase = .rxHunt)
      | .rxRead .tEcho _ => s.env.outsideTurns = 0 ∧ (s.phase = .txEcho1 ∨ s.phase = .txEcho2)
      | .rxRead .tAck _ => s.env.outsideTurns = 0 ∧ s.phase = .txAck
      | .txWrite b _ _ => s.env.outsideTurns = 0 ∧
          ((s.phase = .txWrite ∧ txByte s = some b) ∨ (s.phase = .txBrkWr ∧ b = 0x00))
      | .setParity .even => s.env.outsideTurns = 0 ∧ s.phase = .txBrkOn
      | .setParity .off => s.env.outsideTurns = 0 ∧ s.phase = .txBrkOff
      | .openPort _ => s.env.outsideTurns ≠ 0 ∧ s.phase = .off
      | .closePort => s.env.outsideTurns = 0 ∧ s.phase = .idle ∧ s.stopreq = true

/-- R101: which phase can follow which in one step. -/
def Obligations.PhasesFollowTheirRules : Prop :=
  ∀ s t : State, step s = .next t → t.phase ≠ s.phase →
    (s.phase, t.phase) ∈
      ([(.off, .idle), (.idle, .off), (.idle, .rx), (.idle, .rxHunt), (.idle, .txWrite), (.rxHunt, .rx),
        (.rxHunt, .idle), (.rx, .idle), (.txWrite, .txEcho1), (.txWrite, .idle), (.txEcho1, .txEcho2),
        (.txEcho1, .txWrite), (.txEcho1, .txBrkOn), (.txEcho1, .idle), (.txEcho2, .txWrite), (.txEcho2, .txBrkOn),
        (.txEcho2, .idle), (.txBrkOn, .txBrkWr), (.txBrkWr, .txBrkOff), (.txBrkOff, .txAck), (.txBrkOff, .idle),
        (.txAck, .idle)] : List (Phase × Phase))

/-- R120, R130 to R132, R140, R202: what a step of the sequencer never writes. -/
def Obligations.SequencerLeavesTheHostsFields : Prop :=
  ∀ s t : State, s.env.outsideTurns = 0 → step s = .next t →
    t.params = s.params ∧ t.txbuf = s.txbuf ∧ t.txlen = s.txlen ∧ t.logmask = s.logmask ∧ t.cmderr = s.cmderr ∧
    t.startFail = s.startFail ∧ t.replies = s.replies ∧ (t.stopreq = true → s.stopreq = true)

/-- R202, R205, R206, R225: what a step of the outside never writes: the received bytes (it may clear RXLEN, by a
command), the bytes already queued (that an `Open()` keeps them is log entry 7, DEDUCED), PAR, the counters but for
CNT_TX_TOTAL. While a command runs it leaves the command
alone (R505, R611): every field of the sequencer, the record of primitives, and in an XMIT the telegram (R711). -/
def Obligations.OutsideLeavesReceivedBytesAndARunningCommand : Prop :=
  ∀ s t : State, s.env.outsideTurns ≠ 0 → step s = .next t →
    (t.params = s.params ∧ t.rxbuf = s.rxbuf ∧ (t.rxlen = s.rxlen ∨ t.rxlen = 0) ∧ t.par = s.par ∧
      (s.phase ≠ .off → t.chan.parity = s.chan.parity) ∧ s.chan.stream <+: t.chan.stream ∧
      t.cntEsc = s.cntEsc ∧ t.cntMark = s.cntMark ∧ t.cntOvf = s.cntOvf ∧ t.cntTxFail = s.cntTxFail) ∧
    (s.busy = true →
      t.phase = s.phase ∧ t.ds = s.ds ∧ t.rxlen = s.rxlen ∧ t.rxovf = s.rxovf ∧ t.rxDone = s.rxDone ∧
      t.rxAbort = s.rxAbort ∧ t.hunted = s.hunted ∧ t.txidx = s.txidx ∧ t.txcnt = s.txcnt ∧ t.ackpos = s.ackpos ∧
      t.txcode = s.txcode ∧ t.txDone = s.txDone ∧ t.brkfail = s.brkfail ∧ t.cntTxTotal = s.cntTxTotal ∧
      t.chan.calls = s.chan.calls) ∧
    (s.txBusy = true → t.txbuf = s.txbuf ∧ t.txlen = s.txlen)

/-- R12: no rule reads the trace events back. Whatever is in the sink, the step does the same to every other field,
and only adds to the sink. -/
def Obligations.TraceEventsAreNeverReadBack : Prop :=
  ∀ (s t : State) (k : List (LogCat × TraceData)), step s = .next t →
    ∃ more : List (LogCat × TraceData), t.sink = s.sink ++ more ∧
      step { s with sink := k } = .next { t with sink := k ++ more }

/-- R140: LOGMASK affects only the trace: in the sequencer's turn another mask changes nothing else. -/
def Obligations.LogmaskAffectsOnlyTheTrace : Prop :=
  ∀ (s t : State) (m : BitVec 6), s.env.outsideTurns = 0 → step s = .next t →
    ∃ k : List (LogCat × TraceData), step { s with logmask := m } = .next { t with logmask := m, sink := k }
end

