-- ==== Sys2Proof/Laws/State.lean ====
section
/-! SUPPORT. One simp lemma per update: what every field of the state is after it (a conjunction, which simp takes
apart into one rewriting per field), and the values of the phase predicates. -/

namespace Sys2Proof.Machine

open Sys2Proof

/-- `Phase.busy` phase by phase. -/
@[simp] theorem Phase.busy_values :
    Phase.busy .off = false ∧ Phase.busy .idle = false ∧ Phase.busy .rxHunt = true ∧ Phase.busy .rx = true ∧
    Phase.busy .txWrite = true ∧ Phase.busy .txEcho1 = true ∧ Phase.busy .txEcho2 = true ∧
    Phase.busy .txBrkOn = true ∧ Phase.busy .txBrkWr = true ∧ Phase.busy .txBrkOff = true ∧ Phase.busy .txAck = true :=
  ⟨rfl, rfl, rfl, rfl, rfl, rfl, rfl, rfl, rfl, rfl, rfl⟩

/-- `Phase.txBusy` phase by phase. -/
@[simp] theorem Phase.txBusy_values :
    Phase.txBusy .off = false ∧ Phase.txBusy .idle = false ∧ Phase.txBusy .rxHunt = false ∧
    Phase.txBusy .rx = false ∧ Phase.txBusy .txWrite = true ∧ Phase.txBusy .txEcho1 = true ∧
    Phase.txBusy .txEcho2 = true ∧ Phase.txBusy .txBrkOn = true ∧ Phase.txBusy .txBrkWr = true ∧
    Phase.txBusy .txBrkOff = true ∧ Phase.txBusy .txAck = true :=
  ⟨rfl, rfl, rfl, rfl, rfl, rfl, rfl, rfl, rfl, rfl, rfl⟩

/-- `Phase.sendsData` phase by phase. -/
@[simp] theorem Phase.sendsData_values :
    Phase.sendsData .off = false ∧ Phase.sendsData .idle = false ∧ Phase.sendsData .rxHunt = false ∧
    Phase.sendsData .rx = false ∧ Phase.sendsData .txWrite = true ∧ Phase.sendsData .txEcho1 = true ∧
    Phase.sendsData .txEcho2 = true ∧ Phase.sendsData .txBrkOn = false ∧ Phase.sendsData .txBrkWr = false ∧
    Phase.sendsData .txBrkOff = false ∧ Phase.sendsData .txAck = false :=
  ⟨rfl, rfl, rfl, rfl, rfl, rfl, rfl, rfl, rfl, rfl, rfl⟩

/-- `Phase.receives` phase by phase. -/
@[simp] theorem Phase.receives_values :
    Phase.receives .off = false ∧ Phase.receives .idle = false ∧ Phase.receives .rxHunt = true ∧
    Phase.receives .rx = true ∧ Phase.receives .txWrite = false ∧ Phase.receives .txEcho1 = false ∧
    Phase.receives .txEcho2 = false ∧ Phase.receives .txBrkOn = false ∧ Phase.receives .txBrkWr = false ∧
    Phase.receives .txBrkOff = false ∧ Phase.receives .txAck = false :=
  ⟨rfl, rfl, rfl, rfl, rfl, rfl, rfl, rfl, rfl, rfl, rfl⟩

/-- R505. -/
@[simp] theorem reject_fields (s : State) :
    (reject s).params = s.params ∧ (reject s).phase = s.phase ∧ (reject s).ds = s.ds ∧ (reject s).rxbuf = s.rxbuf ∧
    (reject s).rxlen = s.rxlen ∧ (reject s).rxovf = s.rxovf ∧ (reject s).rxDone = s.rxDone ∧
    (reject s).rxAbort = s.rxAbort ∧ (reject s).hunted = s.hunted ∧ (reject s).txbuf = s.txbuf ∧
    (reject s).txlen = s.txlen ∧ (reject s).txidx = s.txidx ∧ (reject s).txcnt = s.txcnt ∧
    (reject s).ackpos = s.ackpos ∧ (reject s).txcode = s.txcode ∧ (reject s).txDone = s.txDone ∧
    (reject s).par = s.par ∧ (reject s).brkfail = s.brkfail ∧ (reject s).stopreq = s.stopreq ∧
    (reject s).startFail = s.startFail ∧ (reject s).logmask = s.logmask ∧ (reject s).cntEsc = s.cntEsc ∧
    (reject s).cntMark = s.cntMark ∧ (reject s).cntOvf = s.cntOvf ∧ (reject s).cntTxTotal = s.cntTxTotal ∧
    (reject s).cntTxFail = s.cntTxFail ∧ (reject s).chan = s.chan ∧ (reject s).sink = s.sink ∧
    (reject s).replies = s.replies ∧ (reject s).env = s.env ∧ (reject s).cmderr = true :=
  ⟨rfl, rfl, rfl, rfl, rfl, rfl, rfl, rfl, rfl, rfl, rfl, rfl, rfl, rfl, rfl, rfl, rfl, rfl, rfl, rfl, rfl, rfl,
  rfl, rfl, rfl, rfl, rfl, rfl, rfl, rfl, rfl⟩

/-- R206: a reply changes nothing else. -/
@[simp] theorem reply_fields (r : Reply) (s : State) :
    (reply r s).params = s.params ∧ (reply r s).phase = s.phase ∧ (reply r s).ds = s.ds ∧
    (reply r s).rxbuf = s.rxbuf ∧ (reply r s).rxlen = s.rxlen ∧ (reply r s).rxovf = s.rxovf ∧
    (reply r s).rxDone = s.rxDone ∧ (reply r s).rxAbort = s.rxAbort ∧ (reply r s).hunted = s.hunted ∧
    (reply r s).txbuf = s.txbuf ∧ (reply r s).txlen = s.txlen ∧ (reply r s).txidx = s.txidx ∧
    (reply r s).txcnt = s.txcnt ∧ (reply r s).ackpos = s.ackpos ∧ (reply r s).txcode = s.txcode ∧
    (reply r s).txDone = s.txDone ∧ (reply r s).par = s.par ∧ (reply r s).brkfail = s.brkfail ∧
    (reply r s).stopreq = s.stopreq ∧ (reply r s).cmderr = s.cmderr ∧ (reply r s).startFail = s.startFail ∧
    (reply r s).logmask = s.logmask ∧ (reply r s).cntEsc = s.cntEsc ∧ (reply r s).cntMark = s.cntMark ∧
    (reply r s).cntOvf = s.cntOvf ∧ (reply r s).cntTxTotal = s.cntTxTotal ∧ (reply r s).cntTxFail = s.cntTxFail ∧
    (reply r s).chan = s.chan ∧ (reply r s).sink = s.sink ∧ (reply r s).env = s.env ∧
    (reply r s).replies = s.replies ++ [r] :=
  ⟨rfl, rfl, rfl, rfl, rfl, rfl, rfl, rfl, rfl, rfl, rfl, rfl, rfl, rfl, rfl, rfl, rfl, rfl, rfl, rfl, rfl, rfl,
  rfl, rfl, rfl, rfl, rfl, rfl, rfl, rfl, rfl⟩

/-- The record changes nothing else. -/
@[simp] theorem record_fields (c : Call) (s : State) :
    (record c s).params = s.params ∧ (record c s).phase = s.phase ∧ (record c s).ds = s.ds ∧
    (record c s).rxbuf = s.rxbuf ∧ (record c s).rxlen = s.rxlen ∧ (record c s).rxovf = s.rxovf ∧
    (record c s).rxDone = s.rxDone ∧ (record c s).rxAbort = s.rxAbort ∧ (record c s).hunted = s.hunted ∧
    (record c s).txbuf = s.txbuf ∧ (record c s).txlen = s.txlen ∧ (record c s).txidx = s.txidx ∧
    (record c s).txcnt = s.txcnt ∧ (record c s).ackpos = s.ackpos ∧ (record c s).txcode = s.txcode ∧
    (record c s).txDone = s.txDone ∧ (record c s).par = s.par ∧ (record c s).brkfail = s.brkfail ∧
    (record c s).stopreq = s.stopreq ∧ (record c s).cmderr = s.cmderr ∧ (record c s).startFail = s.startFail ∧
    (record c s).logmask = s.logmask ∧ (record c s).cntEsc = s.cntEsc ∧ (record c s).cntMark = s.cntMark ∧
    (record c s).cntOvf = s.cntOvf ∧ (record c s).cntTxTotal = s.cntTxTotal ∧
    (record c s).cntTxFail = s.cntTxFail ∧ (record c s).sink = s.sink ∧ (record c s).replies = s.replies ∧
    (record c s).env = s.env ∧ (record c s).chan.calls = s.chan.calls ++ [c] ∧
    (record c s).chan.isOpen = s.chan.isOpen ∧ (record c s).chan.parity = s.chan.parity ∧
    (record c s).chan.stream = s.chan.stream :=
  ⟨rfl, rfl, rfl, rfl, rfl, rfl, rfl, rfl, rfl, rfl, rfl, rfl, rfl, rfl, rfl, rfl, rfl, rfl, rfl, rfl, rfl, rfl,
  rfl, rfl, rfl, rfl, rfl, rfl, rfl, rfl, rfl, rfl, rfl, rfl⟩

/-- R226. -/
@[simp] theorem txWrite_fields (b : Byte) (s : State) :
    (txWrite b s).params = s.params ∧ (txWrite b s).phase = s.phase ∧ (txWrite b s).ds = s.ds ∧
    (txWrite b s).rxbuf = s.rxbuf ∧ (txWrite b s).rxlen = s.rxlen ∧ (txWrite b s).rxovf = s.rxovf ∧
    (txWrite b s).rxDone = s.rxDone ∧ (txWrite b s).rxAbort = s.rxAbort ∧ (txWrite b s).hunted = s.hunted ∧
    (txWrite b s).txbuf = s.txbuf ∧ (txWrite b s).txlen = s.txlen ∧ (txWrite b s).txidx = s.txidx ∧
    (txWrite b s).txcnt = s.txcnt ∧ (txWrite b s).ackpos = s.ackpos ∧ (txWrite b s).txcode = s.txcode ∧
    (txWrite b s).txDone = s.txDone ∧ (txWrite b s).par = s.par ∧ (txWrite b s).brkfail = s.brkfail ∧
    (txWrite b s).stopreq = s.stopreq ∧ (txWrite b s).cmderr = s.cmderr ∧ (txWrite b s).startFail = s.startFail ∧
    (txWrite b s).logmask = s.logmask ∧ (txWrite b s).cntEsc = s.cntEsc ∧ (txWrite b s).cntMark = s.cntMark ∧
    (txWrite b s).cntOvf = s.cntOvf ∧ (txWrite b s).cntTxTotal = s.cntTxTotal ∧
    (txWrite b s).cntTxFail = s.cntTxFail ∧ (txWrite b s).sink = s.sink ∧ (txWrite b s).replies = s.replies ∧
    (txWrite b s).chan.calls = s.chan.calls ++ [.txWrite b s.chan.parity (writeAnswer s)] ∧
    (txWrite b s).env = useWrite s.env ∧ (txWrite b s).chan.isOpen = s.chan.isOpen ∧
    (txWrite b s).chan.parity = s.chan.parity ∧ (txWrite b s).chan.stream = s.chan.stream :=
  ⟨rfl, rfl, rfl, rfl, rfl, rfl, rfl, rfl, rfl, rfl, rfl, rfl, rfl, rfl, rfl, rfl, rfl, rfl, rfl, rfl, rfl, rfl,
  rfl, rfl, rfl, rfl, rfl, rfl, rfl, rfl, rfl, rfl, rfl, rfl⟩

/-- R227. -/
@[simp] theorem setParity_fields (m : Parity) (s : State) :
    (setParity m s).params = s.params ∧ (setParity m s).phase = s.phase ∧ (setParity m s).ds = s.ds ∧
    (setParity m s).rxbuf = s.rxbuf ∧ (setParity m s).rxlen = s.rxlen ∧ (setParity m s).rxovf = s.rxovf ∧
    (setParity m s).rxDone = s.rxDone ∧ (setParity m s).rxAbort = s.rxAbort ∧ (setParity m s).hunted = s.hunted ∧
    (setParity m s).txbuf = s.txbuf ∧ (setParity m s).txlen = s.txlen ∧ (setParity m s).txidx = s.txidx ∧
    (setParity m s).txcnt = s.txcnt ∧ (setParity m s).ackpos = s.ackpos ∧ (setParity m s).txcode = s.txcode ∧
    (setParity m s).txDone = s.txDone ∧ (setParity m s).par = s.par ∧ (setParity m s).brkfail = s.brkfail ∧
    (setParity m s).stopreq = s.stopreq ∧ (setParity m s).cmderr = s.cmderr ∧
    (setParity m s).startFail = s.startFail ∧ (setParity m s).logmask = s.logmask ∧
    (setParity m s).cntEsc = s.cntEsc ∧ (setParity m s).cntMark = s.cntMark ∧ (setParity m s).cntOvf = s.cntOvf ∧
    (setParity m s).cntTxTotal = s.cntTxTotal ∧ (setParity m s).cntTxFail = s.cntTxFail ∧
    (setParity m s).sink = s.sink ∧ (setParity m s).replies = s.replies ∧ (setParity m s).env = s.env ∧
    (setParity m s).chan.calls = s.chan.calls ++ [.setParity m] ∧ (setParity m s).chan.isOpen = s.chan.isOpen ∧
    (setParity m s).chan.parity = m ∧ (setParity m s).chan.stream = s.chan.stream :=
  ⟨rfl, rfl, rfl, rfl, rfl, rfl, rfl, rfl, rfl, rfl, rfl, rfl, rfl, rfl, rfl, rfl, rfl, rfl, rfl, rfl, rfl, rfl,
  rfl, rfl, rfl, rfl, rfl, rfl, rfl, rfl, rfl, rfl, rfl, rfl⟩

/-- R229. -/
@[simp] theorem closePort_fields (s : State) :
    (closePort s).params = s.params ∧ (closePort s).phase = s.phase ∧ (closePort s).ds = s.ds ∧
    (closePort s).rxbuf = s.rxbuf ∧ (closePort s).rxlen = s.rxlen ∧ (closePort s).rxovf = s.rxovf ∧
    (closePort s).rxDone = s.rxDone ∧ (closePort s).rxAbort = s.rxAbort ∧ (closePort s).hunted = s.hunted ∧
    (closePort s).txbuf = s.txbuf ∧ (closePort s).txlen = s.txlen ∧ (closePort s).txidx = s.txidx ∧
    (closePort s).txcnt = s.txcnt ∧ (closePort s).ackpos = s.ackpos ∧ (closePort s).txcode = s.txcode ∧
    (closePort s).txDone = s.txDone ∧ (closePort s).par = s.par ∧ (closePort s).brkfail = s.brkfail ∧
    (closePort s).stopreq = s.stopreq ∧ (closePort s).cmderr = s.cmderr ∧ (closePort s).startFail = s.startFail ∧
    (closePort s).logmask = s.logmask ∧ (closePort s).cntEsc = s.cntEsc ∧ (closePort s).cntMark = s.cntMark ∧
    (closePort s).cntOvf = s.cntOvf ∧ (closePort s).cntTxTotal = s.cntTxTotal ∧
    (closePort s).cntTxFail = s.cntTxFail ∧ (closePort s).sink = s.sink ∧ (closePort s).replies = s.replies ∧
    (closePort s).env = s.env ∧ (closePort s).chan.calls = s.chan.calls ++ [.closePort] ∧
    (closePort s).chan.isOpen = false ∧ (closePort s).chan.parity = s.chan.parity ∧
    (closePort s).chan.stream = s.chan.stream :=
  ⟨rfl, rfl, rfl, rfl, rfl, rfl, rfl, rfl, rfl, rfl, rfl, rfl, rfl, rfl, rfl, rfl, rfl, rfl, rfl, rfl, rfl, rfl,
  rfl, rfl, rfl, rfl, rfl, rfl, rfl, rfl, rfl, rfl, rfl, rfl⟩

/-- R224. -/
@[simp] theorem rxReadInf_fields (b : Byte) (s : State) :
    (rxReadInf b s).params = s.params ∧ (rxReadInf b s).phase = s.phase ∧ (rxReadInf b s).ds = s.ds ∧
    (rxReadInf b s).rxbuf = s.rxbuf ∧ (rxReadInf b s).rxlen = s.rxlen ∧ (rxReadInf b s).rxovf = s.rxovf ∧
    (rxReadInf b s).rxDone = s.rxDone ∧ (rxReadInf b s).rxAbort = s.rxAbort ∧ (rxReadInf b s).hunted = s.hunted ∧
    (rxReadInf b s).txbuf = s.txbuf ∧ (rxReadInf b s).txlen = s.txlen ∧ (rxReadInf b s).txidx = s.txidx ∧
    (rxReadInf b s).txcnt = s.txcnt ∧ (rxReadInf b s).ackpos = s.ackpos ∧ (rxReadInf b s).txcode = s.txcode ∧
    (rxReadInf b s).txDone = s.txDone ∧ (rxReadInf b s).par = s.par ∧ (rxReadInf b s).brkfail = s.brkfail ∧
    (rxReadInf b s).stopreq = s.stopreq ∧ (rxReadInf b s).cmderr = s.cmderr ∧
    (rxReadInf b s).startFail = s.startFail ∧ (rxReadInf b s).logmask = s.logmask ∧
    (rxReadInf b s).cntEsc = s.cntEsc ∧ (rxReadInf b s).cntMark = s.cntMark ∧ (rxReadInf b s).cntOvf = s.cntOvf ∧
    (rxReadInf b s).cntTxTotal = s.cntTxTotal ∧ (rxReadInf b s).cntTxFail = s.cntTxFail ∧
    (rxReadInf b s).sink = s.sink ∧ (rxReadInf b s).replies = s.replies ∧ (rxReadInf b s).env = s.env ∧
    (rxReadInf b s).chan.calls = s.chan.calls ++ [.rxRead .inf (.byte b)] ∧
    (rxReadInf b s).chan.isOpen = s.chan.isOpen ∧ (rxReadInf b s).chan.parity = s.chan.parity ∧
    (rxReadInf b s).chan.stream = s.chan.stream.tail :=
  ⟨rfl, rfl, rfl, rfl, rfl, rfl, rfl, rfl, rfl, rfl, rfl, rfl, rfl, rfl, rfl, rfl, rfl, rfl, rfl, rfl, rfl, rfl,
  rfl, rfl, rfl, rfl, rfl, rfl, rfl, rfl, rfl, rfl, rfl, rfl⟩

/-- R224. -/
@[simp] theorem rxReadBounded_fields (k : Bound) (s : State) :
    (rxReadBounded k s).params = s.params ∧ (rxReadBounded k s).phase = s.phase ∧ (rxReadBounded k s).ds = s.ds ∧
    (rxReadBounded k s).rxbuf = s.rxbuf ∧ (rxReadBounded k s).rxlen = s.rxlen ∧
    (rxReadBounded k s).rxovf = s.rxovf ∧ (rxReadBounded k s).rxDone = s.rxDone ∧
    (rxReadBounded k s).rxAbort = s.rxAbort ∧ (rxReadBounded k s).hunted = s.hunted ∧
    (rxReadBounded k s).txbuf = s.txbuf ∧ (rxReadBounded k s).txlen = s.txlen ∧
    (rxReadBounded k s).txidx = s.txidx ∧ (rxReadBounded k s).txcnt = s.txcnt ∧
    (rxReadBounded k s).ackpos = s.ackpos ∧ (rxReadBounded k s).txcode = s.txcode ∧
    (rxReadBounded k s).txDone = s.txDone ∧ (rxReadBounded k s).par = s.par ∧
    (rxReadBounded k s).brkfail = s.brkfail ∧ (rxReadBounded k s).stopreq = s.stopreq ∧
    (rxReadBounded k s).cmderr = s.cmderr ∧ (rxReadBounded k s).startFail = s.startFail ∧
    (rxReadBounded k s).logmask = s.logmask ∧ (rxReadBounded k s).cntEsc = s.cntEsc ∧
    (rxReadBounded k s).cntMark = s.cntMark ∧ (rxReadBounded k s).cntOvf = s.cntOvf ∧
    (rxReadBounded k s).cntTxTotal = s.cntTxTotal ∧ (rxReadBounded k s).cntTxFail = s.cntTxFail ∧
    (rxReadBounded k s).sink = s.sink ∧ (rxReadBounded k s).replies = s.replies ∧
    (rxReadBounded k s).chan.calls = s.chan.calls ++ [.rxRead k (boundedAnswer s)] ∧
    (rxReadBounded k s).chan.isOpen = s.chan.isOpen ∧ (rxReadBounded k s).chan.parity = s.chan.parity :=
  ⟨rfl, rfl, rfl, rfl, rfl, rfl, rfl, rfl, rfl, rfl, rfl, rfl, rfl, rfl, rfl, rfl, rfl, rfl, rfl, rfl, rfl, rfl,
  rfl, rfl, rfl, rfl, rfl, rfl, rfl, rfl, rfl, rfl⟩

/-- R229. -/
@[simp] theorem openPort_fields (s : State) :
    (openPort s).params = s.params ∧ (openPort s).phase = s.phase ∧ (openPort s).ds = s.ds ∧
    (openPort s).rxbuf = s.rxbuf ∧ (openPort s).rxlen = s.rxlen ∧ (openPort s).rxovf = s.rxovf ∧
    (openPort s).rxDone = s.rxDone ∧ (openPort s).rxAbort = s.rxAbort ∧ (openPort s).hunted = s.hunted ∧
    (openPort s).txbuf = s.txbuf ∧ (openPort s).txlen = s.txlen ∧ (openPort s).txidx = s.txidx ∧
    (openPort s).txcnt = s.txcnt ∧ (openPort s).ackpos = s.ackpos ∧ (openPort s).txcode = s.txcode ∧
    (openPort s).txDone = s.txDone ∧ (openPort s).par = s.par ∧ (openPort s).brkfail = s.brkfail ∧
    (openPort s).stopreq = s.stopreq ∧ (openPort s).cmderr = s.cmderr ∧ (openPort s).startFail = s.startFail ∧
    (openPort s).logmask = s.logmask ∧ (openPort s).cntEsc = s.cntEsc ∧ (openPort s).cntMark = s.cntMark ∧
    (openPort s).cntOvf = s.cntOvf ∧ (openPort s).cntTxTotal = s.cntTxTotal ∧
    (openPort s).cntTxFail = s.cntTxFail ∧ (openPort s).sink = s.sink ∧ (openPort s).replies = s.replies ∧
    (openPort s).env = useOpen s.env := by
  unfold openPort
  cases openAnswer s <;> simp

/-- R12: a trace event has no effect on any other state. -/
@[simp] theorem trace_fields (c : LogCat) (d : TraceData) (s : State) :
    (trace c d s).params = s.params ∧ (trace c d s).phase = s.phase ∧ (trace c d s).ds = s.ds ∧
    (trace c d s).rxbuf = s.rxbuf ∧ (trace c d s).rxlen = s.rxlen ∧ (trace c d s).rxovf = s.rxovf ∧
    (trace c d s).rxDone = s.rxDone ∧ (trace c d s).rxAbort = s.rxAbort ∧ (trace c d s).hunted = s.hunted ∧
    (trace c d s).txbuf = s.txbuf ∧ (trace c d s).txlen = s.txlen ∧ (trace c d s).txidx = s.txidx ∧
    (trace c d s).txcnt = s.txcnt ∧ (trace c d s).ackpos = s.ackpos ∧ (trace c d s).txcode = s.txcode ∧
    (trace c d s).txDone = s.txDone ∧ (trace c d s).par = s.par ∧ (trace c d s).brkfail = s.brkfail ∧
    (trace c d s).stopreq = s.stopreq ∧ (trace c d s).cmderr = s.cmderr ∧ (trace c d s).startFail = s.startFail ∧
    (trace c d s).logmask = s.logmask ∧ (trace c d s).cntEsc = s.cntEsc ∧ (trace c d s).cntMark = s.cntMark ∧
    (trace c d s).cntOvf = s.cntOvf ∧ (trace c d s).cntTxTotal = s.cntTxTotal ∧
    (trace c d s).cntTxFail = s.cntTxFail ∧ (trace c d s).chan = s.chan ∧ (trace c d s).replies = s.replies ∧
    (trace c d s).env = s.env := by
  unfold trace
  split <;> simp

/-- R413. -/
@[simp] theorem escAnomaly_fields (b : Byte) (s : State) :
    (escAnomaly b s).params = s.params ∧ (escAnomaly b s).phase = s.phase ∧ (escAnomaly b s).ds = s.ds ∧
    (escAnomaly b s).rxbuf = s.rxbuf ∧ (escAnomaly b s).rxlen = s.rxlen ∧ (escAnomaly b s).rxovf = s.rxovf ∧
    (escAnomaly b s).rxDone = s.rxDone ∧ (escAnomaly b s).rxAbort = s.rxAbort ∧
    (escAnomaly b s).hunted = s.hunted ∧ (escAnomaly b s).txbuf = s.txbuf ∧ (escAnomaly b s).txlen = s.txlen ∧
    (escAnomaly b s).txidx = s.txidx ∧ (escAnomaly b s).txcnt = s.txcnt ∧ (escAnomaly b s).ackpos = s.ackpos ∧
    (escAnomaly b s).txcode = s.txcode ∧ (escAnomaly b s).txDone = s.txDone ∧ (escAnomaly b s).par = s.par ∧
    (escAnomaly b s).brkfail = s.brkfail ∧ (escAnomaly b s).stopreq = s.stopreq ∧
    (escAnomaly b s).cmderr = s.cmderr ∧ (escAnomaly b s).startFail = s.startFail ∧
    (escAnomaly b s).logmask = s.logmask ∧ (escAnomaly b s).cntMark = s.cntMark ∧
    (escAnomaly b s).cntOvf = s.cntOvf ∧ (escAnomaly b s).cntTxTotal = s.cntTxTotal ∧
    (escAnomaly b s).cntTxFail = s.cntTxFail ∧ (escAnomaly b s).chan = s.chan ∧
    (escAnomaly b s).replies = s.replies ∧ (escAnomaly b s).env = s.env ∧ (escAnomaly b s).cntEsc = s.cntEsc.succ := by
  unfold escAnomaly
  simp

/-- R416. -/
@[simp] theorem markAnomaly_fields (b : Byte) (s : State) :
    (markAnomaly b s).params = s.params ∧ (markAnomaly b s).phase = s.phase ∧ (markAnomaly b s).ds = s.ds ∧
    (markAnomaly b s).rxbuf = s.rxbuf ∧ (markAnomaly b s).rxlen = s.rxlen ∧ (markAnomaly b s).rxovf = s.rxovf ∧
    (markAnomaly b s).rxDone = s.rxDone ∧ (markAnomaly b s).rxAbort = s.rxAbort ∧
    (markAnomaly b s).hunted = s.hunted ∧ (markAnomaly b s).txbuf = s.txbuf ∧ (markAnomaly b s).txlen = s.txlen ∧
    (markAnomaly b s).txidx = s.txidx ∧ (markAnomaly b s).txcnt = s.txcnt ∧ (markAnomaly b s).ackpos = s.ackpos ∧
    (markAnomaly b s).txcode = s.txcode ∧ (markAnomaly b s).txDone = s.txDone ∧ (markAnomaly b s).par = s.par ∧
    (markAnomaly b s).brkfail = s.brkfail ∧ (markAnomaly b s).stopreq = s.stopreq ∧
    (markAnomaly b s).cmderr = s.cmderr ∧ (markAnomaly b s).startFail = s.startFail ∧
    (markAnomaly b s).logmask = s.logmask ∧ (markAnomaly b s).cntEsc = s.cntEsc ∧
    (markAnomaly b s).cntOvf = s.cntOvf ∧ (markAnomaly b s).cntTxTotal = s.cntTxTotal ∧
    (markAnomaly b s).cntTxFail = s.cntTxFail ∧ (markAnomaly b s).chan = s.chan ∧
    (markAnomaly b s).replies = s.replies ∧ (markAnomaly b s).env = s.env ∧
    (markAnomaly b s).cntMark = s.cntMark.succ := by
  unfold markAnomaly
  simp

/-- R417, R418: an append leaves the automaton and every other field alone. -/
@[simp] theorem append_fields (v : Byte) (s : State) :
    (append v s).params = s.params ∧ (append v s).phase = s.phase ∧ (append v s).ds = s.ds ∧
    (append v s).rxDone = s.rxDone ∧ (append v s).rxAbort = s.rxAbort ∧ (append v s).hunted = s.hunted ∧
    (append v s).txbuf = s.txbuf ∧ (append v s).txlen = s.txlen ∧ (append v s).txidx = s.txidx ∧
    (append v s).txcnt = s.txcnt ∧ (append v s).ackpos = s.ackpos ∧ (append v s).txcode = s.txcode ∧
    (append v s).txDone = s.txDone ∧ (append v s).par = s.par ∧ (append v s).brkfail = s.brkfail ∧
    (append v s).stopreq = s.stopreq ∧ (append v s).cmderr = s.cmderr ∧ (append v s).startFail = s.startFail ∧
    (append v s).logmask = s.logmask ∧ (append v s).cntEsc = s.cntEsc ∧ (append v s).cntMark = s.cntMark ∧
    (append v s).cntTxTotal = s.cntTxTotal ∧ (append v s).cntTxFail = s.cntTxFail ∧ (append v s).chan = s.chan ∧
    (append v s).replies = s.replies ∧ (append v s).env = s.env := by
  unfold append
  split
  · simp
  · split <;> simp

/-- R415. -/
@[simp] theorem completeTelegram_fields (s : State) :
    (completeTelegram s).params = s.params ∧ (completeTelegram s).ds = s.ds ∧
    (completeTelegram s).rxbuf = s.rxbuf ∧ (completeTelegram s).rxlen = s.rxlen ∧
    (completeTelegram s).rxovf = s.rxovf ∧ (completeTelegram s).rxAbort = s.rxAbort ∧
    (completeTelegram s).hunted = s.hunted ∧ (completeTelegram s).txbuf = s.txbuf ∧
    (completeTelegram s).txlen = s.txlen ∧ (completeTelegram s).txidx = s.txidx ∧
    (completeTelegram s).txcnt = s.txcnt ∧ (completeTelegram s).ackpos = s.ackpos ∧
    (completeTelegram s).txcode = s.txcode ∧ (completeTelegram s).txDone = s.txDone ∧
    (completeTelegram s).par = s.par ∧ (completeTelegram s).brkfail = s.brkfail ∧
    (completeTelegram s).stopreq = s.stopreq ∧ (completeTelegram s).cmderr = s.cmderr ∧
    (completeTelegram s).startFail = s.startFail ∧ (completeTelegram s).logmask = s.logmask ∧
    (completeTelegram s).cntEsc = s.cntEsc ∧ (completeTelegram s).cntMark = s.cntMark ∧
    (completeTelegram s).cntOvf = s.cntOvf ∧ (completeTelegram s).cntTxTotal = s.cntTxTotal ∧
    (completeTelegram s).cntTxFail = s.cntTxFail ∧ (completeTelegram s).chan = s.chan ∧
    (completeTelegram s).replies = s.replies ∧ (completeTelegram s).env = s.env ∧
    (completeTelegram s).rxDone = true ∧ (completeTelegram s).phase = .idle := by
  unfold completeTelegram
  simp

/-- R470. -/
@[simp] theorem finishTx_fields (code : TxCode) (s : State) :
    (finishTx code s).params = s.params ∧ (finishTx code s).ds = s.ds ∧ (finishTx code s).rxbuf = s.rxbuf ∧
    (finishTx code s).rxlen = s.rxlen ∧ (finishTx code s).rxovf = s.rxovf ∧ (finishTx code s).rxDone = s.rxDone ∧
    (finishTx code s).rxAbort = s.rxAbort ∧ (finishTx code s).hunted = s.hunted ∧
    (finishTx code s).txbuf = s.txbuf ∧ (finishTx code s).txlen = s.txlen ∧ (finishTx code s).txidx = s.txidx ∧
    (finishTx code s).txcnt = s.txcnt ∧ (finishTx code s).ackpos = s.ackpos ∧ (finishTx code s).par = s.par ∧
    (finishTx code s).brkfail = s.brkfail ∧ (finishTx code s).stopreq = s.stopreq ∧
    (finishTx code s).cmderr = s.cmderr ∧ (finishTx code s).startFail = s.startFail ∧
    (finishTx code s).logmask = s.logmask ∧ (finishTx code s).cntEsc = s.cntEsc ∧
    (finishTx code s).cntMark = s.cntMark ∧ (finishTx code s).cntOvf = s.cntOvf ∧
    (finishTx code s).cntTxTotal = s.cntTxTotal ∧ (finishTx code s).chan = s.chan ∧
    (finishTx code s).replies = s.replies ∧ (finishTx code s).env = s.env ∧ (finishTx code s).txcode = code ∧
    (finishTx code s).txDone = true ∧ (finishTx code s).phase = .idle ∧
    (finishTx code s).cntTxFail = if code = .ok then s.cntTxFail else s.cntTxFail.succ := by
  unfold finishTx
  split <;> simp [*]

/-- R457. -/
@[simp] theorem byteVerified_fields (s : State) :
    (byteVerified s).params = s.params ∧ (byteVerified s).ds = s.ds ∧ (byteVerified s).rxbuf = s.rxbuf ∧
    (byteVerified s).rxlen = s.rxlen ∧ (byteVerified s).rxovf = s.rxovf ∧ (byteVerified s).rxDone = s.rxDone ∧
    (byteVerified s).rxAbort = s.rxAbort ∧ (byteVerified s).hunted = s.hunted ∧ (byteVerified s).txbuf = s.txbuf ∧
    (byteVerified s).txlen = s.txlen ∧ (byteVerified s).ackpos = s.ackpos ∧ (byteVerified s).txcode = s.txcode ∧
    (byteVerified s).txDone = s.txDone ∧ (byteVerified s).par = s.par ∧ (byteVerified s).brkfail = s.brkfail ∧
    (byteVerified s).stopreq = s.stopreq ∧ (byteVerified s).cmderr = s.cmderr ∧
    (byteVerified s).startFail = s.startFail ∧ (byteVerified s).logmask = s.logmask ∧
    (byteVerified s).cntEsc = s.cntEsc ∧ (byteVerified s).cntMark = s.cntMark ∧
    (byteVerified s).cntOvf = s.cntOvf ∧ (byteVerified s).cntTxTotal = s.cntTxTotal ∧
    (byteVerified s).cntTxFail = s.cntTxFail ∧ (byteVerified s).chan = s.chan ∧ (byteVerified s).sink = s.sink ∧
    (byteVerified s).replies = s.replies ∧ (byteVerified s).env = s.env ∧ (byteVerified s).txcnt = s.txcnt + 1 ∧
    (byteVerified s).txidx = s.txidx + 1 :=
  ⟨rfl, rfl, rfl, rfl, rfl, rfl, rfl, rfl, rfl, rfl, rfl, rfl, rfl, rfl, rfl, rfl, rfl, rfl, rfl, rfl, rfl, rfl,
  rfl, rfl, rfl, rfl, rfl, rfl, rfl, rfl⟩

/-- R402. -/
@[simp] theorem startRecv_fields (s : State) :
    (startRecv s).params = s.params ∧ (startRecv s).rxbuf = s.rxbuf ∧ (startRecv s).hunted = s.hunted ∧
    (startRecv s).txbuf = s.txbuf ∧ (startRecv s).txlen = s.txlen ∧ (startRecv s).txidx = s.txidx ∧
    (startRecv s).txcnt = s.txcnt ∧ (startRecv s).ackpos = s.ackpos ∧ (startRecv s).txcode = s.txcode ∧
    (startRecv s).txDone = s.txDone ∧ (startRecv s).par = s.par ∧ (startRecv s).brkfail = s.brkfail ∧
    (startRecv s).stopreq = s.stopreq ∧ (startRecv s).startFail = s.startFail ∧ (startRecv s).logmask = s.logmask ∧
    (startRecv s).cntEsc = s.cntEsc ∧ (startRecv s).cntMark = s.cntMark ∧ (startRecv s).cntOvf = s.cntOvf ∧
    (startRecv s).cntTxTotal = s.cntTxTotal ∧ (startRecv s).cntTxFail = s.cntTxFail ∧ (startRecv s).chan = s.chan ∧
    (startRecv s).sink = s.sink ∧ (startRecv s).replies = s.replies ∧ (startRecv s).env = s.env ∧
    (startRecv s).cmderr = false ∧ (startRecv s).rxDone = false ∧ (startRecv s).rxAbort = false ∧
    (startRecv s).ds = .normal ∧ (startRecv s).rxlen = 0 ∧ (startRecv s).rxovf = false :=
  ⟨rfl, rfl, rfl, rfl, rfl, rfl, rfl, rfl, rfl, rfl, rfl, rfl, rfl, rfl, rfl, rfl, rfl, rfl, rfl, rfl, rfl, rfl,
  rfl, rfl, rfl, rfl, rfl, rfl, rfl, rfl⟩

/-- R451. -/
@[simp] theorem startXmit_fields (s : State) :
    (startXmit s).params = s.params ∧ (startXmit s).ds = s.ds ∧ (startXmit s).rxbuf = s.rxbuf ∧
    (startXmit s).rxlen = s.rxlen ∧ (startXmit s).rxovf = s.rxovf ∧ (startXmit s).rxDone = s.rxDone ∧
    (startXmit s).rxAbort = s.rxAbort ∧ (startXmit s).hunted = s.hunted ∧ (startXmit s).txbuf = s.txbuf ∧
    (startXmit s).txlen = s.txlen ∧ (startXmit s).par = s.par ∧ (startXmit s).stopreq = s.stopreq ∧
    (startXmit s).startFail = s.startFail ∧ (startXmit s).logmask = s.logmask ∧ (startXmit s).cntEsc = s.cntEsc ∧
    (startXmit s).cntMark = s.cntMark ∧ (startXmit s).cntOvf = s.cntOvf ∧ (startXmit s).cntTxFail = s.cntTxFail ∧
    (startXmit s).chan = s.chan ∧ (startXmit s).sink = s.sink ∧ (startXmit s).replies = s.replies ∧
    (startXmit s).env = s.env ∧ (startXmit s).cmderr = false ∧ (startXmit s).txDone = false ∧
    (startXmit s).txidx = 0 ∧ (startXmit s).txcnt = 0 ∧ (startXmit s).ackpos = 0 ∧ (startXmit s).brkfail = false ∧
    (startXmit s).txcode = .busycode ∧ (startXmit s).cntTxTotal = s.cntTxTotal.succ ∧ (startXmit s).phase = .txWrite :=
  ⟨rfl, rfl, rfl, rfl, rfl, rfl, rfl, rfl, rfl, rfl, rfl, rfl, rfl, rfl, rfl, rfl, rfl, rfl, rfl, rfl, rfl, rfl,
  rfl, rfl, rfl, rfl, rfl, rfl, rfl, rfl, rfl⟩

/-- R500. -/
@[simp] theorem startFields_fields (s : State) :
    (startFields s).params = s.params ∧ (startFields s).rxbuf = s.rxbuf ∧ (startFields s).txbuf = s.txbuf ∧
    (startFields s).txlen = s.txlen ∧ (startFields s).par = s.par ∧ (startFields s).stopreq = s.stopreq ∧
    (startFields s).cmderr = s.cmderr ∧ (startFields s).logmask = s.logmask ∧ (startFields s).cntEsc = s.cntEsc ∧
    (startFields s).cntMark = s.cntMark ∧ (startFields s).cntOvf = s.cntOvf ∧
    (startFields s).cntTxTotal = s.cntTxTotal ∧ (startFields s).cntTxFail = s.cntTxFail ∧
    (startFields s).chan = s.chan ∧ (startFields s).sink = s.sink ∧ (startFields s).replies = s.replies ∧
    (startFields s).env = s.env ∧ (startFields s).startFail = false ∧ (startFields s).ds = .normal ∧
    (startFields s).rxlen = 0 ∧ (startFields s).rxovf = false ∧ (startFields s).rxDone = false ∧
    (startFields s).rxAbort = false ∧ (startFields s).hunted = false ∧ (startFields s).txidx = 0 ∧
    (startFields s).txcnt = 0 ∧ (startFields s).ackpos = 0 ∧ (startFields s).brkfail = false ∧
    (startFields s).txDone = false ∧ (startFields s).txcode = .noneYet ∧ (startFields s).phase = .idle :=
  ⟨rfl, rfl, rfl, rfl, rfl, rfl, rfl, rfl, rfl, rfl, rfl, rfl, rfl, rfl, rfl, rfl, rfl, rfl, rfl, rfl, rfl, rfl,
  rfl, rfl, rfl, rfl, rfl, rfl, rfl, rfl, rfl⟩

/-- R419. -/
@[simp] theorem abortRecv_fields (s : State) :
    (abortRecv s).params = s.params ∧ (abortRecv s).rxbuf = s.rxbuf ∧ (abortRecv s).rxlen = s.rxlen ∧
    (abortRecv s).rxovf = s.rxovf ∧ (abortRecv s).rxDone = s.rxDone ∧ (abortRecv s).hunted = s.hunted ∧
    (abortRecv s).txbuf = s.txbuf ∧ (abortRecv s).txlen = s.txlen ∧ (abortRecv s).txidx = s.txidx ∧
    (abortRecv s).txcnt = s.txcnt ∧ (abortRecv s).ackpos = s.ackpos ∧ (abortRecv s).txcode = s.txcode ∧
    (abortRecv s).txDone = s.txDone ∧ (abortRecv s).par = s.par ∧ (abortRecv s).brkfail = s.brkfail ∧
    (abortRecv s).stopreq = s.stopreq ∧ (abortRecv s).cmderr = s.cmderr ∧ (abortRecv s).startFail = s.startFail ∧
    (abortRecv s).logmask = s.logmask ∧ (abortRecv s).cntEsc = s.cntEsc ∧ (abortRecv s).cntMark = s.cntMark ∧
    (abortRecv s).cntOvf = s.cntOvf ∧ (abortRecv s).cntTxTotal = s.cntTxTotal ∧
    (abortRecv s).cntTxFail = s.cntTxFail ∧ (abortRecv s).chan = s.chan ∧ (abortRecv s).sink = s.sink ∧
    (abortRecv s).replies = s.replies ∧ (abortRecv s).env = s.env ∧ (abortRecv s).rxAbort = true ∧
    (abortRecv s).ds = .normal ∧ (abortRecv s).phase = .idle :=
  ⟨rfl, rfl, rfl, rfl, rfl, rfl, rfl, rfl, rfl, rfl, rfl, rfl, rfl, rfl, rfl, rfl, rfl, rfl, rfl, rfl, rfl, rfl,
  rfl, rfl, rfl, rfl, rfl, rfl, rfl, rfl, rfl⟩

/-- R504. -/
@[simp] theorem stopCleanup_fields (s : State) :
    (stopCleanup s).params = s.params ∧ (stopCleanup s).ds = s.ds ∧ (stopCleanup s).rxbuf = s.rxbuf ∧
    (stopCleanup s).rxlen = s.rxlen ∧ (stopCleanup s).rxovf = s.rxovf ∧ (stopCleanup s).rxDone = s.rxDone ∧
    (stopCleanup s).rxAbort = s.rxAbort ∧ (stopCleanup s).hunted = s.hunted ∧ (stopCleanup s).txbuf = s.txbuf ∧
    (stopCleanup s).txlen = s.txlen ∧ (stopCleanup s).txidx = s.txidx ∧ (stopCleanup s).txcnt = s.txcnt ∧
    (stopCleanup s).ackpos = s.ackpos ∧ (stopCleanup s).txcode = s.txcode ∧ (stopCleanup s).txDone = s.txDone ∧
    (stopCleanup s).par = s.par ∧ (stopCleanup s).brkfail = s.brkfail ∧ (stopCleanup s).cmderr = s.cmderr ∧
    (stopCleanup s).startFail = s.startFail ∧ (stopCleanup s).logmask = s.logmask ∧
    (stopCleanup s).cntEsc = s.cntEsc ∧ (stopCleanup s).cntMark = s.cntMark ∧ (stopCleanup s).cntOvf = s.cntOvf ∧
    (stopCleanup s).cntTxTotal = s.cntTxTotal ∧ (stopCleanup s).cntTxFail = s.cntTxFail ∧
    (stopCleanup s).sink = s.sink ∧ (stopCleanup s).replies = s.replies ∧ (stopCleanup s).env = s.env ∧
    (stopCleanup s).phase = .off ∧ (stopCleanup s).stopreq = false ∧
    (stopCleanup s).chan.calls = s.chan.calls ++ [.closePort] ∧ (stopCleanup s).chan.isOpen = false ∧
    (stopCleanup s).chan.parity = s.chan.parity ∧ (stopCleanup s).chan.stream = s.chan.stream :=
  ⟨rfl, rfl, rfl, rfl, rfl, rfl, rfl, rfl, rfl, rfl, rfl, rfl, rfl, rfl, rfl, rfl, rfl, rfl, rfl, rfl, rfl, rfl,
  rfl, rfl, rfl, rfl, rfl, rfl, rfl, rfl, rfl, rfl, rfl, rfl⟩

/-- R403. -/
@[simp] theorem endHunt_fields (s : State) :
    (endHunt s).params = s.params ∧ (endHunt s).ds = s.ds ∧ (endHunt s).rxbuf = s.rxbuf ∧
    (endHunt s).rxlen = s.rxlen ∧ (endHunt s).rxovf = s.rxovf ∧ (endHunt s).rxDone = s.rxDone ∧
    (endHunt s).rxAbort = s.rxAbort ∧ (endHunt s).txbuf = s.txbuf ∧ (endHunt s).txlen = s.txlen ∧
    (endHunt s).txidx = s.txidx ∧ (endHunt s).txcnt = s.txcnt ∧ (endHunt s).ackpos = s.ackpos ∧
    (endHunt s).txcode = s.txcode ∧ (endHunt s).txDone = s.txDone ∧ (endHunt s).par = s.par ∧
    (endHunt s).brkfail = s.brkfail ∧ (endHunt s).stopreq = s.stopreq ∧ (endHunt s).cmderr = s.cmderr ∧
    (endHunt s).startFail = s.startFail ∧ (endHunt s).logmask = s.logmask ∧ (endHunt s).cntEsc = s.cntEsc ∧
    (endHunt s).cntMark = s.cntMark ∧ (endHunt s).cntOvf = s.cntOvf ∧ (endHunt s).cntTxTotal = s.cntTxTotal ∧
    (endHunt s).cntTxFail = s.cntTxFail ∧ (endHunt s).chan = s.chan ∧ (endHunt s).sink = s.sink ∧
    (endHunt s).replies = s.replies ∧ (endHunt s).env = s.env ∧ (endHunt s).hunted = true ∧ (endHunt s).phase = .rx :=
  ⟨rfl, rfl, rfl, rfl, rfl, rfl, rfl, rfl, rfl, rfl, rfl, rfl, rfl, rfl, rfl, rfl, rfl, rfl, rfl, rfl, rfl, rfl,
  rfl, rfl, rfl, rfl, rfl, rfl, rfl, rfl, rfl⟩

/-- R501: the turn takes inputs and nothing else. -/
@[simp] theorem seqTurn_fields (s : State) :
    (State.seqTurn s).params = s.params ∧ (State.seqTurn s).phase = s.phase ∧ (State.seqTurn s).ds = s.ds ∧
    (State.seqTurn s).rxbuf = s.rxbuf ∧ (State.seqTurn s).rxlen = s.rxlen ∧ (State.seqTurn s).rxovf = s.rxovf ∧
    (State.seqTurn s).rxDone = s.rxDone ∧ (State.seqTurn s).rxAbort = s.rxAbort ∧
    (State.seqTurn s).hunted = s.hunted ∧ (State.seqTurn s).txbuf = s.txbuf ∧ (State.seqTurn s).txlen = s.txlen ∧
    (State.seqTurn s).txidx = s.txidx ∧ (State.seqTurn s).txcnt = s.txcnt ∧ (State.seqTurn s).ackpos = s.ackpos ∧
    (State.seqTurn s).txcode = s.txcode ∧ (State.seqTurn s).txDone = s.txDone ∧ (State.seqTurn s).par = s.par ∧
    (State.seqTurn s).brkfail = s.brkfail ∧ (State.seqTurn s).stopreq = s.stopreq ∧
    (State.seqTurn s).cmderr = s.cmderr ∧ (State.seqTurn s).startFail = s.startFail ∧
    (State.seqTurn s).logmask = s.logmask ∧ (State.seqTurn s).cntEsc = s.cntEsc ∧
    (State.seqTurn s).cntMark = s.cntMark ∧ (State.seqTurn s).cntOvf = s.cntOvf ∧
    (State.seqTurn s).cntTxTotal = s.cntTxTotal ∧ (State.seqTurn s).cntTxFail = s.cntTxFail ∧
    (State.seqTurn s).chan = s.chan ∧ (State.seqTurn s).sink = s.sink ∧ (State.seqTurn s).replies = s.replies ∧
    (State.seqTurn s).env = useBurst s.env :=
  ⟨rfl, rfl, rfl, rfl, rfl, rfl, rfl, rfl, rfl, rfl, rfl, rfl, rfl, rfl, rfl, rfl, rfl, rfl, rfl, rfl, rfl, rfl,
  rfl, rfl, rfl, rfl, rfl, rfl, rfl, rfl, rfl⟩

/-- R224. -/
@[simp] theorem arrive_fields (b : Byte) (s : State) :
    (arrive b s).params = s.params ∧ (arrive b s).phase = s.phase ∧ (arrive b s).ds = s.ds ∧
    (arrive b s).rxbuf = s.rxbuf ∧ (arrive b s).rxlen = s.rxlen ∧ (arrive b s).rxovf = s.rxovf ∧
    (arrive b s).rxDone = s.rxDone ∧ (arrive b s).rxAbort = s.rxAbort ∧ (arrive b s).hunted = s.hunted ∧
    (arrive b s).txbuf = s.txbuf ∧ (arrive b s).txlen = s.txlen ∧ (arrive b s).txidx = s.txidx ∧
    (arrive b s).txcnt = s.txcnt ∧ (arrive b s).ackpos = s.ackpos ∧ (arrive b s).txcode = s.txcode ∧
    (arrive b s).txDone = s.txDone ∧ (arrive b s).par = s.par ∧ (arrive b s).brkfail = s.brkfail ∧
    (arrive b s).stopreq = s.stopreq ∧ (arrive b s).cmderr = s.cmderr ∧ (arrive b s).startFail = s.startFail ∧
    (arrive b s).logmask = s.logmask ∧ (arrive b s).cntEsc = s.cntEsc ∧ (arrive b s).cntMark = s.cntMark ∧
    (arrive b s).cntOvf = s.cntOvf ∧ (arrive b s).cntTxTotal = s.cntTxTotal ∧
    (arrive b s).cntTxFail = s.cntTxFail ∧ (arrive b s).sink = s.sink ∧ (arrive b s).replies = s.replies ∧
    (arrive b s).env = s.env ∧ (arrive b s).chan.calls = s.chan.calls ∧ (arrive b s).chan.isOpen = s.chan.isOpen ∧
    (arrive b s).chan.parity = s.chan.parity ∧ (arrive b s).chan.stream = s.chan.stream ++ [b] :=
  ⟨rfl, rfl, rfl, rfl, rfl, rfl, rfl, rfl, rfl, rfl, rfl, rfl, rfl, rfl, rfl, rfl, rfl, rfl, rfl, rfl, rfl, rfl,
  rfl, rfl, rfl, rfl, rfl, rfl, rfl, rfl, rfl, rfl, rfl, rfl⟩

end Sys2Proof.Machine
end

