-- ==== Sys2Proof/Laws/Ops.lean ====
section
/-! SUPPORT. What each shared operation can do, said once, and what decoding gives for the words a step forms. -/

namespace Sys2Proof.Machine

open Sys2Proof

/-! ### Operations -/

/-- R12, R513: a trace event only adds to the sink, when its category's bit is 1. -/
theorem trace_eq (c : LogCat) (d : TraceData) (s : State) :
    trace c d s = { s with sink := if s.logmask.getLsbD (logBit c) then s.sink ++ [(c, d)] else s.sink } := by
  unfold trace
  split <;> rfl

/-- R229: an `Open()` answered `OK`. -/
theorem openPort_of_ok {s : State} (h : openAnswer s = .ok) :
    openPort s = { s with
      env := useOpen s.env,
      chan := { s.chan with isOpen := true, parity := .off, calls := s.chan.calls ++ [.openPort .ok] } } := by
  simp only [openPort, record, h]

/-- R229: an `Open()` answered `FAIL`. -/
theorem openPort_of_fail {s : State} (h : openAnswer s = .fail) :
    openPort s = { s with
      env := useOpen s.env, chan := { s.chan with calls := s.chan.calls ++ [.openPort .fail] } } := by
  simp only [openPort, record, h]

/-- R417: an append that finds room. -/
theorem append_of_room {s : State} (v : Byte) (h : s.rxlen.toNat < 32) :
    append v s = { s with rxbuf := s.rxbuf.setIfInBounds s.rxlen.toNat v, rxlen := s.rxlen + 1 } := by
  simp only [append, Config.maxLen, h, if_true]

/-- R417: the first append that finds the buffer full. -/
theorem append_of_overflow {s : State} (v : Byte) (h : 32 ≤ s.rxlen.toNat) (ho : s.rxovf = false) :
    append v s = trace .error .overflow { s with rxovf := true, cntOvf := s.cntOvf.succ } := by
  simp only [append, Config.maxLen, Nat.not_lt.2 h, ho, if_false, if_true]

/-- R417: a later append that finds the buffer full. -/
theorem append_of_full {s : State} (v : Byte) (h : 32 ≤ s.rxlen.toNat) (ho : s.rxovf = true) : append v s = s := by
  simp [append, Config.maxLen, Nat.not_lt.2 h, ho]

/-- R403: in the hunt the effect is left out. -/
theorem unlessHunting_of_hunt {s : State} (f : State → State) (h : s.phase = .rxHunt) : unlessHunting f s = s := by
  simp [unlessHunting, h]

/-- R404: outside the hunt the effect is had. -/
theorem unlessHunting_of_not_hunt {s : State} (f : State → State) (h : s.phase ≠ .rxHunt) :
    unlessHunting f s = f s := by
  simp [unlessHunting, h]

/-- R224: a bounded read's answer is the oldest byte, or `TIMEOUT`. -/
theorem boundedAnswer_cases (s : State) :
    boundedAnswer s = .timeout ∨ ∃ b q, s.chan.stream = b :: q ∧ boundedAnswer s = .byte b := by
  unfold boundedAnswer
  split
  · exact .inl rfl
  · split
    · exact .inl rfl
    · rename_i b q h _
      exact .inr ⟨b, q, h, rfl⟩

/-- R224: a bounded read leaves the stream without the byte it returned, and whole after a `TIMEOUT`. -/
theorem rxReadBounded_stream (k : Bound) (s : State) :
    (rxReadBounded k s).chan.stream =
      match boundedAnswer s with
      | .byte _ => s.chan.stream.tail
      | .timeout => s.chan.stream := rfl

/-! ### Marking -/

/-- R323: no event, no byte. -/
@[simp] theorem markAll_nil : markAll [] = [] := rfl

/-- R323: the bytes of the first event come first. -/
@[simp] theorem markAll_cons (e : LineEvent) (es : List LineEvent) : markAll (e :: es) = mark e ++ markAll es := rfl

/-- R323: the marked stream of one sequence of events after another. -/
@[simp] theorem markAll_append (es fs : List LineEvent) : markAll (es ++ fs) = markAll es ++ markAll fs :=
  List.flatMap_append

/-- R222: the break as marked bytes. -/
@[simp] theorem mark_lineBreak : mark lineBreak = [0xFF, 0x00, 0x00] := rfl

/-- R323: the marked form ends with the marked break. -/
theorem markedForm_eq (t : List Byte) : markedForm t = markAll (t.map .good ++ [lineBreak]) := by
  simp [markedForm]

/-! ### Host writes -/

/-- R502, R505, R511, R512: everything a host write can do. -/
theorem writeReg_cases (idx : BitVec 8) (v : Reg) (s : State) :
    writeReg idx v s = reject s ∨
    (s.txBusy = false ∧ ∃ i : Fin 32, writeReg idx v s = { s with txbuf := s.txbuf.set i (val8 v) }) ∨
    (s.txBusy = false ∧ writeReg idx v s = { s with txlen := val6 v }) ∨
    writeReg idx v s = { s with logmask := val6 v } ∨
    (s.acceptsRecv = true ∧ writeReg idx v s = startRecv s) ∨
    (s.acceptsXmit = true ∧ writeReg idx v s = startXmit s) ∨
    (s.acceptsStart = true ∧ writeReg idx v s = acceptedStart s) ∨
    (s.acceptsStop = true ∧ writeReg idx v s = { s with cmderr := false, stopreq := true }) := by
  unfold writeReg writeTxb writeCmd writeTxlen runCommand commandRecv commandXmit commandStart commandStop
  split
  · rename_i i _
    by_cases h : s.txBusy = true
    · simp [h]
    · rw [if_neg h]
      exact .inr (.inl ⟨Bool.eq_false_iff.2 h, i, rfl⟩)
  · by_cases h0 : idx = 0x00
    · rw [if_pos h0]
      cases hc : commandOf (valOp v) with
      | none => exact .inl rfl
      | some c => cases c <;> dsimp only <;> split <;> simp [*]
    · rw [if_neg h0]
      by_cases h3 : idx = 0x03
      · rw [if_pos h3]
        by_cases h : s.txBusy = true <;> simp [h]
      · rw [if_neg h3]
        by_cases h5 : idx = 0x05
        · rw [if_pos h5]
          simp
        · exact .inl (if_neg h5)

/-! ### Decoding of the words a step forms -/

/-- R301: the fields of a host word. -/
theorem hostWord_fields (w : BitVec 1) (idx : BitVec 8) (val : BitVec 32) :
    (hostWord w idx val).getLsbD 40 = w.getLsbD 0 ∧ (hostWord w idx val).extractLsb' 32 8 = idx ∧
    (hostWord w idx val).extractLsb' 0 32 = val := by
  unfold hostWord
  refine ⟨(BitVec.getLsbD_append (i := 40)).trans (BitVec.getLsbD_append (i := 8)), ?_, ?_⟩
  · ext k hk
    simp only [BitVec.getElem_extractLsb', BitVec.getLsbD_append, show ¬ (32 + k < 32) by omega, hk,
      Nat.add_sub_cancel_left]
    simp [hk]
  · ext k hk
    simp only [BitVec.getElem_extractLsb', BitVec.getLsbD_append, Nat.zero_add, hk]
    simp [hk]

/-- R304: the instruction of the symbol formed from a decoder state and a byte. -/
theorem decodeRx_rxSymbol (d : DecState) (b : Byte) :
    decodeRx (rxSymbol d b) = .ok (match d with
      | .normal => if b = 0xFF then .s0Esc else .s0Lit b
      | .sawFF => if b = 0x00 then .s1Mark else if b = 0xFF then .s1Ff else .s1Bad b
      | .marked => if b = 0x00 then .s2Break else .s2Bad b) := by
  have hb : (rxSymbol d b).extractLsb' 0 8 = b := by
    unfold rxSymbol
    ext k hk
    simp only [BitVec.getElem_extractLsb', BitVec.getLsbD_append, Nat.zero_add, hk]
    simp [hk]
  have hd : (rxSymbol d b).extractLsb' 8 2 = dsCode d := by
    unfold rxSymbol
    ext k hk
    simp only [BitVec.getElem_extractLsb', BitVec.getLsbD_append, show ¬ (8 + k < 8) by omega, Nat.add_sub_cancel_left]
    simp [hk]
  simp only [decodeRx, hb, hd]
  cases d <;> rfl

/-- R305: the instruction of the symbol formed from an acknowledgment position and a byte. -/
theorem decodeAck_ackSymbol (pos : BitVec 2) (a : Byte) :
    decodeAck (ackSymbol pos a) =
      if pos = 0 ∧ a = 0xFF then .ackB0
      else if pos = 1 ∧ a = 0x00 then .ackB1
      else if pos = 2 ∧ a = 0x00 then .ackB2
      else .ackBad pos a := by
  have ha : (ackSymbol pos a).extractLsb' 0 8 = a := by
    unfold ackSymbol
    ext k hk
    simp only [BitVec.getElem_extractLsb', BitVec.getLsbD_append, Nat.zero_add, hk]
    simp [hk]
  have hp : (ackSymbol pos a).extractLsb' 8 2 = pos := by
    unfold ackSymbol
    ext k hk
    simp only [BitVec.getElem_extractLsb', BitVec.getLsbD_append, show ¬ (8 + k < 8) by omega, Nat.add_sub_cancel_left]
    simp [hk]
  simp only [decodeAck, ha, hp]

/-- R465, R7: below position 3 the symbol is `ACK_BAD` exactly when the byte is not that of `ACK_SEQ`. -/
theorem decodeAck_eq_ackBad (pos : BitVec 2) (a : Byte) (h : pos ≠ 3) :
    decodeAck (ackSymbol pos a) = .ackBad pos a ↔ Config.ackSeq[pos.toNat]? ≠ some a := by
  rw [decodeAck_ackSymbol]
  have hp : pos = 0 ∨ pos = 1 ∨ pos = 2 := by bv_omega
  clear h
  rcases hp with rfl | rfl | rfl <;> decide +revert

/-- R150: which index names a byte of TXB. -/
theorem txbSlot_eq_some {idx : BitVec 8} {i : Fin 32} : txbSlot idx = some i ↔ idx.toNat = 0x40 + i.val := by
  unfold txbSlot
  split <;> simp [Fin.ext_iff] <;> omega

/-- R150: which index names a byte of RXB. -/
theorem rxbSlot_eq_some {idx : BitVec 8} {i : Fin 32} : rxbSlot idx = some i ↔ idx.toNat = 0x20 + i.val := by
  unfold rxbSlot
  split <;> simp [Fin.ext_iff] <;> omega

/-! ### Instructions and turns -/

/-- Every instruction has a next state in every state: exec neither faults nor refuses. -/
theorem exec_answers_next (i : Instr) (s : State) : ∃ t : State, exec i s = .next t := by
  cases i <;> exact ⟨_, rfl⟩

/-- The fetch in a turn of the outside. -/
theorem fetch_of_outside {s : State} {n : Nat} (h : s.env.outsideTurns = n + 1) :
    fetch s = outsideTurn { s with env := { s.env with outsideTurns := n } } := by
  simp only [fetch, h]

/-- The fetch in the sequencer's turn. -/
theorem fetch_of_sequencer {s : State} (h : s.env.outsideTurns = 0) : fetch s = sequencerTurn s.seqTurn := by
  simp only [fetch, h, State.seqTurn]

/-- R465: what the third matched byte of `ACK_SEQ` and the ones before it do. -/
theorem ackMatched_cases (s : State) :
    (s.ackpos = 2 ∧ ackMatched s = finishTx .ok { s with ackpos := 3 }) ∨
    (s.ackpos ≠ 2 ∧ ackMatched s = { s with ackpos := s.ackpos + 1 }) := by
  by_cases h : s.ackpos = 2
  · exact .inl ⟨h, by simp [ackMatched, h]⟩
  · have h3 : s.ackpos + 1 ≠ 3 := by bv_omega
    exact .inr ⟨h, by simp only [ackMatched, if_neg h3]⟩

/-! ### The invariant -/

/-- The invariant reads these fields only. -/
theorem State.Inv.of_eq {s t : State} (h : s.Inv)
    (e : t.params = s.params ∧ t.phase = s.phase ∧ t.ds = s.ds ∧ t.rxlen = s.rxlen ∧ t.rxovf = s.rxovf ∧
      t.rxDone = s.rxDone ∧ t.rxAbort = s.rxAbort ∧ t.hunted = s.hunted ∧ t.txbuf = s.txbuf ∧ t.txlen = s.txlen ∧
      t.txidx = s.txidx ∧ t.txcnt = s.txcnt ∧ t.ackpos = s.ackpos ∧ t.txcode = s.txcode ∧ t.txDone = s.txDone ∧
      t.par = s.par ∧ t.brkfail = s.brkfail ∧ t.stopreq = s.stopreq ∧ t.chan.isOpen = s.chan.isOpen ∧
      t.chan.parity = s.chan.parity) : t.Inv := by
  obtain ⟨e1, e2, e3, e4, e5, e6, e7, e8, e9, e10, e11, e12, e13, e14, e15, e16, e17, e18, e19, e20⟩ := e
  obtain ⟨⟨_, _, _, _, _⟩, ⟨_, _, _, _, _, _, _, _, _, _, _⟩, ⟨_, _, _, _⟩⟩ := h
  have hb : t.txBusy = s.txBusy := by simp [State.txBusy, e2]
  have hr : t.run = s.run := by simp [State.run, e2]
  have ht : txByte t = txByte s := by simp [txByte, e9, e11]
  constructor <;> constructor <;>
    simp only [e1, e2, e3, e4, e5, e6, e7, e8, e10, e11, e12, e13, e14, e15, e16, e17, e18, e19, e20, hb, hr, ht] <;>
    assumption

end Sys2Proof.Machine
end

