-- ==== Sys2Proof/Laws/PerInstr.lean ====
section
/-! SUPPORT. Statements made of every instruction, one lemma per constructor. -/

namespace Sys2Proof.Laws

/-- R300: the opcode table has a row of the instruction's mnemonic, and the instruction's word matches that row by its
mask. -/
def RowPattern.Statement (i : Instr) : Prop :=
  ∃ r ∈ opcodeTable, r.mnemonic = i.mnemonic ∧ r.matchesWord (encode i).format (encode i).value = true

/-- Bit 40 of a host word is `W`. -/
theorem hostWord_and_bit40 (w : BitVec 1) (idx : BitVec 8) (val : BitVec 32) :
    (hostWord w idx val).toNat &&& 0x10000000000 = (w.getLsbD 0).toNat * 0x10000000000 :=
  (Nat.and_two_pow _ 40).trans (by
    rw [BitVec.testBit_toNat, (Machine.hostWord_fields w idx val).1]
    norm_num)

theorem RowPattern.hostRead (idx : BitVec 8) (val : BitVec 32) : RowPattern.Statement (.hostRead idx val) :=
  ⟨⟨.host, "HostRead", 0x10000000000, 0x00000000000, 0⟩, by decide, rfl, by
    simp [Row.matchesWord, encode, Encoded.format, Encoded.value, hostWord_and_bit40]⟩

theorem RowPattern.hostWrite (idx : BitVec 8) (val : BitVec 32) : RowPattern.Statement (.hostWrite idx val) :=
  ⟨⟨.host, "HostWrite", 0x10000000000, 0x10000000000, 0⟩, by decide, rfl, by
    simp [Row.matchesWord, encode, Encoded.format, Encoded.value, hostWord_and_bit40]⟩

theorem RowPattern.recv : RowPattern.Statement .recv :=
  ⟨⟨.cmd, "RECV", 0xFF, 0x01, 0⟩, by decide, rfl, by decide⟩

theorem RowPattern.xmit : RowPattern.Statement .xmit :=
  ⟨⟨.cmd, "XMIT", 0xFF, 0x02, 0⟩, by decide, rfl, by decide⟩

theorem RowPattern.start : RowPattern.Statement .start :=
  ⟨⟨.cmd, "START", 0xFF, 0x10, 0⟩, by decide, rfl, by decide⟩

theorem RowPattern.stop : RowPattern.Statement .stop :=
  ⟨⟨.cmd, "STOP", 0xFF, 0x11, 0⟩, by decide, rfl, by decide⟩

theorem RowPattern.s0Esc : RowPattern.Statement .s0Esc :=
  ⟨⟨.rxsym, "S0_ESC", 0x3FF, 0x0FF, 0⟩, by decide, rfl, by decide⟩

theorem RowPattern.s0Lit (b : Byte) : RowPattern.Statement (.s0Lit b) :=
  ⟨⟨.rxsym, "S0_LIT", 0x300, 0x000, 1⟩, by decide, rfl, by decide +revert⟩

theorem RowPattern.s1Mark : RowPattern.Statement .s1Mark :=
  ⟨⟨.rxsym, "S1_MARK", 0x3FF, 0x100, 0⟩, by decide, rfl, by decide⟩

theorem RowPattern.s1Ff : RowPattern.Statement .s1Ff :=
  ⟨⟨.rxsym, "S1_FF", 0x3FF, 0x1FF, 0⟩, by decide, rfl, by decide⟩

theorem RowPattern.s1Bad (b : Byte) : RowPattern.Statement (.s1Bad b) :=
  ⟨⟨.rxsym, "S1_BAD", 0x300, 0x100, 1⟩, by decide, rfl, by decide +revert⟩

theorem RowPattern.s2Break : RowPattern.Statement .s2Break :=
  ⟨⟨.rxsym, "S2_BREAK", 0x3FF, 0x200, 0⟩, by decide, rfl, by decide⟩

theorem RowPattern.s2Bad (b : Byte) : RowPattern.Statement (.s2Bad b) :=
  ⟨⟨.rxsym, "S2_BAD", 0x300, 0x200, 1⟩, by decide, rfl, by decide +revert⟩

theorem RowPattern.ackB0 : RowPattern.Statement .ackB0 :=
  ⟨⟨.acksym, "ACK_B0", 0x3FF, 0x0FF, 0⟩, by decide, rfl, by decide⟩

theorem RowPattern.ackB1 : RowPattern.Statement .ackB1 :=
  ⟨⟨.acksym, "ACK_B1", 0x3FF, 0x100, 0⟩, by decide, rfl, by decide⟩

theorem RowPattern.ackB2 : RowPattern.Statement .ackB2 :=
  ⟨⟨.acksym, "ACK_B2", 0x3FF, 0x200, 0⟩, by decide, rfl, by decide⟩

theorem RowPattern.ackBad (pos : BitVec 2) (a : Byte) : RowPattern.Statement (.ackBad pos a) :=
  ⟨⟨.acksym, "ACK_BAD", 0x000, 0x000, 1⟩, by decide, rfl, by
    simp [Row.matchesWord, encode, Encoded.format]⟩

theorem RowPattern.tokenAck : RowPattern.Statement .tokenAck :=
  ⟨⟨.token, "ACK", 0xFF, 0x01, 0⟩, by decide, rfl, by decide⟩

theorem RowPattern.tokenUnknown (low : BitVec 3) : RowPattern.Statement (.tokenUnknown low) :=
  ⟨⟨.token, "UNKNOWN", 0xF8, 0x00, 1⟩, by decide, rfl, by decide +revert⟩

theorem RowPattern.tokenAssign (id : BitVec 7) : RowPattern.Statement (.tokenAssign id) :=
  ⟨⟨.token, "ASSIGN", 0x80, 0x80, 2⟩, by decide, rfl, by decide +revert⟩

theorem RowPattern.tokenRelease (id : BitVec 7) : RowPattern.Statement (.tokenRelease id) :=
  ⟨⟨.token, "RELEASE", 0x80, 0x00, 3⟩, by decide, rfl, by decide +revert⟩

end Sys2Proof.Laws
end

