-- ==== Sys2Proof/Tests/Slice0.lean ====
section
/-! SUPPORT. Tests. Expected values are the spec's (30_encoding.md, 95_test_vectors.md, the examples of the rules);
each test names its source. The witnesses show, for each statement with hypotheses, inputs that meet them. -/

namespace Sys2Proof.Tests

open Sys2Proof Sys2Proof.Machine

/-! ### Ill-formed terms that the check refuses (R300) -/

theorem test_wf_refuses_s0Lit_ff : (Instr.s0Lit 0xFF).wf = false := by decide
theorem test_wf_refuses_s1Bad_00_ff : (Instr.s1Bad 0x00).wf = false ∧ (Instr.s1Bad 0xFF).wf = false := by decide
theorem test_wf_refuses_s2Bad_00 : (Instr.s2Bad 0x00).wf = false := by decide
theorem test_wf_refuses_ackBad_expected :
    (Instr.ackBad 0 0xFF).wf = false ∧ (Instr.ackBad 1 0x00).wf = false ∧ (Instr.ackBad 2 0x00).wf = false := by decide
theorem test_wf_refuses_tokenUnknown_1 : (Instr.tokenUnknown 1).wf = false := by decide
theorem test_wf_refuses_tokenRelease_7 : (Instr.tokenRelease 7).wf = false := by decide
theorem test_wf_takes_neighbours :
    (Instr.s0Lit 0xFE).wf = true ∧ (Instr.s1Bad 0x01).wf = true ∧ (Instr.s2Bad 0xFF).wf = true ∧
    (Instr.ackBad 3 0x00).wf = true ∧ (Instr.tokenUnknown 0).wf = true ∧ (Instr.tokenRelease 8).wf = true := by decide

/-! ### Decoding: words written out bit by bit from 30_encoding.md -/

/-- R301: W = 0, IDX = 0x3F, VAL = 0 (V-EN-12). -/
theorem test_decode_hostRead :
    decode (.host 0b0_00111111_00000000000000000000000000000000) = .ok (.hostRead 0x3F 0) := by decide
/-- R301: W = 1, IDX = 0x05, VAL = 0x21 (V-EN-09). -/
theorem test_decode_hostWrite :
    decode (.host 0b1_00000101_00000000000000000000000000100001) = .ok (.hostWrite 0x05 0x21) := by decide
/-- R303. -/
theorem test_decode_recv : decode (.cmd 0b00000001) = .ok .recv := by decide
/-- R303. -/
theorem test_decode_xmit : decode (.cmd 0b00000010) = .ok .xmit := by decide
/-- R303. -/
theorem test_decode_start : decode (.cmd 0b00010000) = .ok .start := by decide
/-- R303. -/
theorem test_decode_stop : decode (.cmd 0b00010001) = .ok .stop := by decide
/-- R303, V-CT-07: reserved opcodes. -/
theorem test_decode_reserved_commands :
    decode (.cmd 0x00) = .error (.reservedCommand 0x00) ∧ decode (.cmd 0x03) = .error (.reservedCommand 0x03) ∧
    decode (.cmd 0x12) = .error (.reservedCommand 0x12) := by decide
/-- R304, V-DS-01. -/
theorem test_decode_s0Esc : decode (.rxsym 0b00_11111111) = .ok .s0Esc := by decide
/-- R304, V-DS-03. -/
theorem test_decode_s0Lit : decode (.rxsym 0b00_11111110) = .ok (.s0Lit 0xFE) := by decide
/-- R304, V-DS-04. -/
theorem test_decode_s1Mark : decode (.rxsym 0b01_00000000) = .ok .s1Mark := by decide
/-- R304, V-DS-05. -/
theorem test_decode_s1Ff : decode (.rxsym 0b01_11111111) = .ok .s1Ff := by decide
/-- R304, V-DS-06. -/
theorem test_decode_s1Bad : decode (.rxsym 0b01_00000001) = .ok (.s1Bad 0x01) := by decide
/-- R304, V-DS-08. -/
theorem test_decode_s2Break : decode (.rxsym 0b10_00000000) = .ok .s2Break := by decide
/-- R304, V-DS-10. -/
theorem test_decode_s2Bad : decode (.rxsym 0b10_11111111) = .ok (.s2Bad 0xFF) := by decide
/-- R304: `DS = 3` matches no row. -/
theorem test_decode_unreachable_symbol :
    decode (.rxsym 0b11_00000000) = .error (.unreachableSymbol 0x300) := by decide
/-- R305, V-AK-01. -/
theorem test_decode_ackB0 : decode (.acksym 0b00_11111111) = .ok .ackB0 := by decide
/-- R305, V-AK-02. -/
theorem test_decode_ackB1 : decode (.acksym 0b01_00000000) = .ok .ackB1 := by decide
/-- R305, V-AK-03. -/
theorem test_decode_ackB2 : decode (.acksym 0b10_00000000) = .ok .ackB2 := by decide
/-- R305, V-AK-04 to V-AK-06, and position 3. -/
theorem test_decode_ackBad :
    decode (.acksym 0b00_00000000) = .ok (.ackBad 0 0x00) ∧ decode (.acksym 0b01_00000001) = .ok (.ackBad 1 0x01) ∧
    decode (.acksym 0b10_11111111) = .ok (.ackBad 2 0xFF) ∧ decode (.acksym 0b11_00000000) = .ok (.ackBad 3 0x00) := by
  decide
/-- R331, V-TK-02. -/
theorem test_decode_tokenAck : decode (.token 0b00000001) = .ok .tokenAck := by decide
/-- R334, V-TK-01, V-TK-03, V-TK-04. -/
theorem test_decode_tokenUnknown :
    decode (.token 0b00000000) = .ok (.tokenUnknown 0) ∧ decode (.token 0b00000010) = .ok (.tokenUnknown 2) ∧
    decode (.token 0b00000111) = .ok (.tokenUnknown 7) := by decide
/-- R332, V-TK-08 to V-TK-10. -/
theorem test_decode_tokenAssign :
    decode (.token 0b10000000) = .ok (.tokenAssign 0x00) ∧ decode (.token 0b10001011) = .ok (.tokenAssign 0x0B) ∧
    decode (.token 0b11111111) = .ok (.tokenAssign 0x7F) := by decide
/-- R333, V-TK-05, V-TK-07. -/
theorem test_decode_tokenRelease :
    decode (.token 0b00001000) = .ok (.tokenRelease 0x08) ∧ decode (.token 0b01111111) = .ok (.tokenRelease 0x7F) := by
  decide
/-- V-EN-02, V-EN-07, V-EN-14: the words of the host-program notation. -/
theorem test_host_notation_words :
    cmdWord 0x02 = 0x10000000002 ∧ wr 0x03 8 = 0x10300000008 ∧ wr 0x5F 0xFF = 0x15F000000FF ∧ rd 0x0C = 0x00C00000000 := by
  decide
/-- R341: the expansion of `load 0B`. -/
theorem test_load_expansion : load [0x0B] = [0x1400000000B, 0x10300000001] := by decide
/-- Bit strings without a format: log entry 12. -/
theorem test_decodeTableWord :
    decodeTableWord 48 0x10000000002 = some (.hostWrite 0x00 0x02) ∧ decodeTableWord 8 0x11 = some .stop ∧
    decodeTableWord 8 0x8B = some (.tokenAssign 0x0B) ∧ decodeTableWord 16 0x1FE = some (.s1Bad 0xFE) ∧
    decodeTableWord 16 0x300 = some (.ackBad 3 0x00) ∧ decodeTableWord 16 0x400 = none := by decide

/-! ### States for the one-step tests -/

/-- S_idle of 95_test_vectors.md, with buffers of zeros and nothing queued; the sequencer has the next turns. -/
def idle : State :=
  { State.reset with
    phase := .idle, rxbuf := Vector.replicate 32 0, txbuf := Vector.replicate 32 0,
    chan := { isOpen := true, parity := .off, stream := [], calls := [] },
    env := { events := [], outsideTurns := 0, bursts := [0, 0, 0, 0], opens := [], writes := [], timeouts := [],
             drawn := 0 } }

/-- S_reset of 95_test_vectors.md, with buffers of zeros. -/
def off : State := { idle with phase := .off, chan := { idle.chan with isOpen := false } }

/-- A RECV in decoder state `d` with the bytes `q` queued. -/
def rx (d : DecState) (q : List Byte) : State :=
  { idle with phase := .rx, ds := d, chan := { idle.chan with stream := q } }

/-- The same in the hunt. -/
def hunt (d : DecState) (q : List Byte) : State :=
  { rx d q with phase := .rxHunt, params := { rxHunt := true, stopAtRead := false } }

/-- An XMIT of `[10, FF]` in phase `p` at the byte `k`, with the bytes `q` queued and no draw of a timeout. -/
def tx (p : Phase) (k : Nat) (q : List Byte) : State :=
  { idle with
    phase := p, txbuf := ((Vector.replicate 32 0).set 0 0x10).set 1 0xFF, txlen := 2, txidx := BitVec.ofNat 6 k,
    txcnt := BitVec.ofNat 6 k, txcode := .busycode, chan := { idle.chan with stream := q },
    env := { idle.env with writes := [.ok, .ok], timeouts := [false, false] } }

/-- A turn of the outside that does `v`. -/
def outside (v : Event) (s : State) : State := { s with env := { s.env with events := [v], outsideTurns := 1 } }

/-- What a function of the next state gives, where there is one. -/
def after {α : Type} (f : State → α) (o : Host.Outcome State Fault Refusal) : Option α :=
  match o with
  | .next t => some (f t)
  | .fault _ => none
  | .refused _ => none

/-- There is a next state and it passes the check. -/
def checks (p : State → Bool) (o : Host.Outcome State Fault Refusal) : Bool := after p o == some true

/-! ### One step each -/

/-- 95_test_vectors.md, S_idle: STATUS, TXSTAT and SEQ. -/
theorem test_idle_registers :
    readReg 0x01 idle = 0x00000001 ∧ readReg 0x04 idle = 0x00000F00 ∧ readReg 0x06 idle = 0x00000001 := by decide
/-- V-CT-11, V-CT-12: values written to LOGMASKR and TXLENR read back in their bits. -/
theorem test_hostWrite_keeps_field_bits :
    after (readReg 0x05) (exec (.hostWrite 0x05 0xFF) idle) = some 0x3F ∧
    after (readReg 0x03) (exec (.hostWrite 0x03 0x141) idle) = some 0x01 := by decide
/-- V-CT-09: reserved and read-only registers; R511's example. -/
theorem test_hostWrite_rejects :
    after (readReg 0x01) (exec (.hostWrite 0x01 0) idle) = some 0x21 ∧
    after (readReg 0x01) (exec (.hostWrite 0x07 1) idle) = some 0x21 ∧
    after (readReg 0x40) (exec (.hostWrite 0x40 0x10B) idle) = some 0x0B := by decide
/-- V-CT-10: the read answers STATUS. -/
theorem test_hostRead_status :
    after (·.replies) (step (outside (.host (rd 0x01)) { idle with cmderr := true })) = some [.reg 0x21] := by decide
/-- V-CT-08, R402: `wr CMD, 0x101` is RECV; V-RX-17: in OFF it is rejected. -/
theorem test_recv :
    after (readReg 0x01) (step (outside (.host 0x10000000101) idle)) = some 0x03 ∧
    after (readReg 0x01) (exec .recv off) = some 0x20 := by decide
/-- R451; V-TX-14: TXLEN 0 and 33 are rejected. -/
theorem test_xmit :
    checks (fun t => t.phase == .txWrite && t.cntTxTotal == 1 && readReg 0x04 t == 0xE00)
      (exec .xmit { idle with txlen := 32 }) = true ∧
    after (readReg 0x01) (exec .xmit { idle with txlen := 0 }) = some 0x21 ∧
    after (readReg 0x01) (exec .xmit { idle with txlen := 33 }) = some 0x21 := by decide
/-- V-CT-01, V-CT-02, V-CT-04. -/
theorem test_start :
    after (readReg 0x01) (exec .start { off with env := { off.env with opens := [.ok] } }) = some 0x01 ∧
    after (readReg 0x01) (exec .start { off with env := { off.env with opens := [.fail] } }) = some 0x40 ∧
    after (readReg 0x01) (exec .start idle) = some 0x21 := by decide
/-- V-CT-05, V-CT-06: STOP, the cleanup, and STOP in OFF. -/
theorem test_stop :
    after (readReg 0x01) (exec .stop idle) = some 0x11 ∧
    checks (fun t => readReg 0x01 t == 0 && t.chan.calls == [.closePort]) (step { idle with stopreq := true }) = true ∧
    after (readReg 0x01) (exec .stop off) = some 0x20 := by decide
/-- V-DS-01, R410's example. -/
theorem test_s0Esc :
    checks (fun t => t.ds == .sawFF && t.rxlen == 3) (step { rx .normal [0xFF] with rxlen := 3 }) = true := by decide
/-- V-DS-02, R411's example; V-RX-10: the byte that overflows. -/
theorem test_s0Lit :
    checks (fun t => t.ds == .normal && t.rxlen == 1) (step (rx .normal [0x00])) = true ∧
    checks (fun t => t.rxlen == 32 && t.rxovf && t.cntOvf == 1) (step { rx .normal [0x21] with rxlen := 32 }) = true := by
  decide
/-- V-DS-04. -/
theorem test_s1Mark : after (·.ds) (step (rx .sawFF [0x00])) = some .marked := by decide
/-- V-DS-05, R414's example. -/
theorem test_s1Ff :
    checks (fun t => t.ds == .normal && t.rxlen == 2 && readReg 0x21 t == 0xFF)
      (step { rx .sawFF [0xFF] with rxlen := 1 }) = true := by decide
/-- V-DS-07, R413's example: the byte is not examined again. -/
theorem test_s1Bad :
    checks (fun t => t.ds == .normal && t.rxlen == 2 && t.cntEsc == 1)
      (step { rx .sawFF [0xFE] with rxlen := 2 }) = true := by decide
/-- V-DS-08, R415's example; V-RX-14: in the hunt it ends the hunt. -/
theorem test_s2Break :
    checks (fun t => t.phase == .idle && t.rxDone && readReg 0x02 t == 1)
      (step { rx .marked [0x00] with rxlen := 1 }) = true ∧
    checks (fun t => t.phase == .rx && t.hunted && !t.rxDone) (step (hunt .marked [0x00])) = true := by decide
/-- V-DS-10: an errored 0xFF is no new escape. -/
theorem test_s2Bad :
    checks (fun t => t.ds == .normal && t.cntMark == 1) (step (rx .marked [0xFF])) = true := by decide
/-- V-AK-01. -/
theorem test_ackB0 :
    checks (fun t => t.phase == .txAck && t.ackpos == 1) (step (tx .txAck 2 [0xFF])) = true := by decide
/-- V-AK-02. -/
theorem test_ackB1 :
    checks (fun t => t.phase == .txAck && t.ackpos == 2) (step { tx .txAck 2 [0x00] with ackpos := 1 }) = true := by
  decide
/-- V-AK-03: the XMIT ends with OK. -/
theorem test_ackB2 :
    checks (fun t => t.phase == .idle && t.ackpos == 3 && t.cntTxFail == 0 && readReg 0x04 t == 0x002)
      (step { tx .txAck 2 [0x00] with ackpos := 2 }) = true := by decide
/-- V-TX-12: the second acknowledgment byte differs. -/
theorem test_ackBad :
    checks (fun t => t.phase == .idle && t.ackpos == 1 && t.cntTxFail == 1 && readReg 0x04 t == 0x802)
      (step { tx .txAck 2 [0x01] with ackpos := 1 }) = true := by decide
/-- V-TK-02, V-TK-04, V-TK-06, V-TK-09. -/
theorem test_tokens :
    after (·.replies) (step (outside (.classify 0x01) idle)) = some [.token .ack] ∧
    after (·.replies) (step (outside (.classify 0x07) idle)) = some [.token .unknown] ∧
    after (·.replies) (step (outside (.classify 0x0B) idle)) = some [.token (.release 0x0B)] ∧
    after (·.replies) (step (outside (.classify 0x8B) idle)) = some [.token (.assign 0x0B)] := by decide
/-- V-TX-06: the comparison comes first, and the second byte stays queued. -/
theorem test_echo_mismatch :
    checks (fun t => t.chan.stream == [0xFF] && readReg 0x04 t == 0x300) (step (tx .txEcho1 0 [0xFF, 0xFF])) = true := by
  decide
/-- V-TX-04, V-TX-07: nothing queued is a timeout. -/
theorem test_echo_timeout :
    after (readReg 0x04) (step (tx .txEcho1 1 [])) = some 0x201 ∧
    after (readReg 0x04) (step (tx .txEcho2 1 [])) = some 0x401 := by decide
/-- R454, R455: a plain byte is verified at once, a 0xFF is not. -/
theorem test_echo_match :
    checks (fun t => t.phase == .txWrite && t.txcnt == 1 && t.txidx == 1) (step (tx .txEcho1 0 [0x10])) = true ∧
    checks (fun t => t.phase == .txEcho2 && t.txcnt == 1) (step (tx .txEcho1 1 [0xFF])) = true ∧
    checks (fun t => t.phase == .txBrkOn && t.txcnt == 2) (step (tx .txEcho2 1 [0xFF])) = true := by decide
/-- V-TX-17, V-TX-18: STATUS and TXSTAT in the middle of an XMIT. -/
theorem test_registers_during_xmit :
    readReg 0x04 (tx .txEcho1 2 []) = 0xE02 ∧ readReg 0x01 (tx .txEcho1 2 []) = 0x03 ∧
    after (readReg 0x01) (step (tx .txBrkOn 2 [])) = some 0x83 := by decide
/-- V-TX-09: parity is restored before the code is written. -/
theorem test_break_write_failure :
    checks (fun t => t.par == .off && t.chan.calls == [.setParity .off] && readReg 0x06 t == 0x8201 &&
        readReg 0x04 t == 0x602)
      (step { tx .txBrkOff 2 [] with brkfail := true, par := .even }) = true := by decide
/-- V-RX-15: STOP_AT_READ ends the RECV without a read. -/
theorem test_stop_at_read :
    checks (fun t => t.rxAbort && !t.rxDone && t.phase == .idle && t.chan.calls == [] && readReg 0x02 t == 0x200)
      (step { rx .normal [0x12] with stopreq := true, params := { rxHunt := false, stopAtRead := true } }) = true := by
  decide
/-- V-MK-03, V-MK-04, V-MK-06 and E-01: the marking. -/
theorem test_mark :
    mark (.good 0xFF) = [0xFF, 0xFF] ∧ mark (.errored 0x37) = [0xFF, 0x00, 0x37] ∧ mark lineBreak = [0xFF, 0x00, 0x00] ∧
    markedForm [0x10, 0xFF, 0x20] = [0x10, 0xFF, 0xFF, 0x20, 0xFF, 0x00, 0x00] := by decide
/-- V-TX-15, R721: the steps and the wait bound of 32 bytes of 0xFF. -/
theorem test_xmit_counts :
    1 + xmitSteps (List.replicate 32 0xFF) = 103 ∧ xmitWaitBoundMs (List.replicate 32 0xFF) = 13000 := by decide
/-- The `line:` record of V-TX-01. -/
theorem test_line_record :
    lineRecord (xmitCalls [0x0B]) = [.byte 0x0B, .parityOn, .byte 0x00, .parityOff] := by decide
/-- Log entry 11: a word placed after reset is run by the next step (STOP in OFF is rejected, V-CT-06; TXSTAT of
S_reset, R700). -/
theorem test_withFetchWord :
    after (readReg 0x01) (step (State.reset.withFetchWord 8 0x11)) = some 0x20 ∧
    after (·.replies) (step (State.reset.withFetchWord 48 0x00400000000)) = some [.reg 0x00000F00] ∧
    after (·.ds) (step (State.reset.withFetchWord 16 0x100)) = some .marked := by decide
/-- The decoder agrees with the table on a few words. -/
theorem test_lookupRow :
    (lookupRow .rxsym 0x101).map (·.mnemonic) = some "S1_BAD" ∧ lookupRow .rxsym 0x300 = none ∧
    (lookupRow .token 0x01).map (·.mnemonic) = some "ACK" ∧ (lookupRow .acksym 0x300).map (·.mnemonic) = some "ACK_BAD" := by
  decide

/-! ### Witnesses: inputs that meet the hypotheses of each statement that has some -/

/-- The invariant holds in S_idle. -/
theorem idle_inv : idle.Inv := by
  constructor <;> constructor <;> decide

/-- The invariant holds in an XMIT that awaits an echo. -/
theorem tx_inv : (tx .txEcho1 1 []).Inv := by
  constructor <;> constructor <;> decide

theorem witness_DecodeOfEncodeIsTheInstruction :
    (Instr.s1Bad 0x01).wf = true ∧ (Instr.ackBad 3 0xFF).wf = true ∧ (Instr.tokenRelease 0x7F).wf = true := by decide
theorem witness_EncodeOfDecodeIsTheWord : decode (.rxsym 0x2FF) = .ok (.s2Bad 0xFF) := by decide
theorem witness_DecoderFollowsTheOpcodeTable :
    lookupRow .token 0x07 = some ⟨.token, "UNKNOWN", 0xF8, 0x00, 1⟩ := by decide
theorem witness_StepKeepsTheInvariant : ∃ t : State, idle.Inv ∧ step idle = .next t := ⟨_, idle_inv, rfl⟩
theorem witness_NothingStopsTheMachine : idle.Inv ∧ (tx .txEcho1 1 []).Inv := ⟨idle_inv, tx_inv⟩
theorem witness_StepRunsTheFetchedInstruction :
    ∃ t : State, fetch (rx .normal [0xFF]) = .run (.rxsym 0x0FF) t ∧ decode (.rxsym 0x0FF) = .ok .s0Esc :=
  ⟨_, rfl, by decide⟩
theorem witness_OutsideTurnDoesTheNextEvent :
    (outside (.host 0x00100000000) idle).env.outsideTurns = 0 + 1 ∧
    (outside (.host 0x00100000000) idle).env.events = [.host 0x00100000000] ∧
    (outside (.classify 0x8B) idle).env.events = [.classify 0x8B] ∧
    (outside (.arrive 0xFF) idle).env.events = [.arrive 0xFF] ∧
    (outside .wait idle).env.events = [.wait] ∧ (outside .wait idle).busy = false ∧
    (outside .wait (rx .normal [])).env.events = [.wait] ∧ (outside .wait (rx .normal [])).busy = true := by decide
theorem witness_SequencerHasNoStepInOffAndIdle :
    (off.env.outsideTurns = 0 ∧ off.phase = .off) ∧
    (idle.env.outsideTurns = 0 ∧ idle.phase = .idle ∧ idle.stopreq = false) := by decide
theorem witness_PlacedWordIsRunNext :
    decode (.host 0x15F000000FF) = .ok (.hostWrite 0x5F 0xFF) ∧ decode (.cmd 0x11) = .ok .stop ∧
    decode (.token 0xFF) = .ok (.tokenAssign 0x7F) ∧ decode (.rxsym 0x2FF) = .ok (.s2Bad 0xFF) ∧
    decode (.acksym 0x3FF) = .ok (.ackBad 3 0xFF) := by decide
theorem witness_WritesOfLengthAndBuffer :
    (rx .normal []).txBusy = false ∧ off.txBusy = false ∧ (tx .txWrite 0 []).txBusy = true ∧
    (tx .txAck 2 []).txBusy = true := by decide
theorem witness_CommandIsTheLowByteOfTheValue :
    (0xFFFFFF01 : Reg).extractLsb' 0 8 = 0x01 ∧ (0x00000102 : Reg).extractLsb' 0 8 = 0x02 ∧
    (0x80000010 : Reg).extractLsb' 0 8 = 0x10 ∧ (0x00000011 : Reg).extractLsb' 0 8 = 0x11 := by decide
theorem witness_RejectedWritesSetCmderrOnly :
    (0x112 : Reg).extractLsb' 0 8 ∉ ([0x01, 0x02, 0x10, 0x11] : List Byte) ∧
    ¬ (off.phase = .idle ∧ off.stopreq = false) ∧ ¬ (1 ≤ idle.txlen.toNat) ∧
    ¬ (({ idle with txlen := 33 } : State).txlen.toNat ≤ 32) ∧ idle.phase ≠ .off ∧ off.phase = .off ∧
    ((0x3F : BitVec 8) ∉ ([0x00, 0x03, 0x05] : List (BitVec 8)) ∧ ¬ ((0x40 : BitVec 8) ≤ 0x3F)) ∧
    ((0x60 : BitVec 8) ∉ ([0x00, 0x03, 0x05] : List (BitVec 8)) ∧ ¬ ((0x60 : BitVec 8) < 0x60)) ∧
    ((0x40 : BitVec 8) ≤ 0x5F ∧ (0x5F : BitVec 8) < 0x60 ∧ (tx .txWrite 0 []).txBusy = true) := by decide
/-- One clearing by each of the four commands, from a state whose CMDERR is 1. -/
theorem witness_CmderrIsSticky :
    ({ idle with cmderr := true } : State).cmderr = true ∧
    after (·.cmderr) (step (outside (.host (cmdWord 0x01)) { idle with cmderr := true })) = some false ∧
    after (·.cmderr) (step (outside (.host (cmdWord 0x02)) { idle with cmderr := true, txlen := 32 })) = some false ∧
    after (·.cmderr) (step (outside (.host (cmdWord 0x10))
      { off with cmderr := true, env := { off.env with opens := [.fail] } })) = some false ∧
    after (·.cmderr) (step (outside (.host (cmdWord 0x11)) { idle with cmderr := true })) = some false := by decide
theorem witness_RecvStartsOrIsRejected :
    (idle.phase = .idle ∧ idle.stopreq = false) ∧
    ¬ (({ idle with stopreq := true } : State).phase = .idle ∧ ({ idle with stopreq := true } : State).stopreq = false) := by
  decide
theorem witness_XmitStartsOrIsRejected :
    (({ idle with txlen := 1 } : State).phase = .idle ∧ 1 ≤ ({ idle with txlen := 1 } : State).txlen.toNat ∧
      ({ idle with txlen := 32 } : State).txlen.toNat ≤ 32 ∧ idle.stopreq = false) ∧
    ¬ (1 ≤ ({ idle with txlen := 0 } : State).txlen.toNat) ∧
    ¬ (({ idle with txlen := 33 } : State).txlen.toNat ≤ 32) := by decide
theorem witness_StartOpensOrFailsOrIsRejected :
    (off.phase = .off ∧ openAnswer { off with env := { off.env with opens := [.ok] } } = .ok ∧
      openAnswer { off with env := { off.env with opens := [.fail] } } = .fail) ∧ idle.phase ≠ .off := by decide
theorem witness_StopRequestsOrIsRejected : idle.phase ≠ .off ∧ (tx .txAck 2 []).phase ≠ .off ∧ off.phase = .off := by
  decide
theorem witness_StopCleanupReleasesTheTransport :
    ({ idle with stopreq := true } : State).env.outsideTurns = 0 ∧ ({ idle with stopreq := true } : State).phase = .idle ∧
    ({ idle with stopreq := true } : State).stopreq = true := by decide
theorem witness_AppendingSymbols :
    (rx .normal []).phase = .rx ∧ ({ rx .normal [] with rxlen := 31 } : State).rxlen.toNat < 32 ∧
    (32 ≤ ({ rx .normal [] with rxlen := 32 } : State).rxlen.toNat ∧
      ({ rx .normal [] with rxlen := 32 } : State).rxovf = false ∧
      ({ rx .normal [] with rxlen := 32, rxovf := true } : State).rxovf = true) ∧
    (∃ v : Byte, Instr.s0Lit v = .s0Lit 0x00 ∨ (Instr.s0Lit v = .s1Ff ∧ v = 0xFF)) :=
  ⟨by decide, by decide, by decide, 0x00, .inl rfl⟩
theorem witness_AnomalySymbols : (rx .sawFF []).phase = .rx ∧ (rx .marked []).phase = .rx := by decide
theorem witness_BreakSymbolCompletesTheTelegram : (rx .marked [0x00]).phase = .rx := by decide
theorem witness_HuntSymbols : (hunt .normal []).phase = .rxHunt := by decide
theorem witness_ReceiveStepReadsOneByte :
    ((rx .marked [0x00]).env.outsideTurns = 0 ∧ (rx .marked [0x00]).phase = .rx ∧
      (rx .marked [0x00]).stopsAtRead = false ∧ (rx .marked [0x00]).chan.stream = [0x00]) ∧
    ((hunt .normal [0xFF]).phase = .rxHunt ∧ (hunt .normal [0xFF]).stopsAtRead = false) := by decide
theorem witness_TransitionsFollowDecodeStep : (rx .normal []).phase = .rx := by decide
theorem witness_StopEndsRecvAtReadBoundary :
    ({ rx .normal [] with stopreq := true, params := ⟨false, true⟩ } : State).params.stopAtRead = true ∧
    ({ rx .normal [] with stopreq := true, params := ⟨false, true⟩ } : State).stopreq = true ∧
    ({ rx .normal [] with stopreq := true } : State).params.stopAtRead = false ∧
    (rx .normal []).env.outsideTurns = 0 ∧ (rx .normal []).phase = .rx ∧ (rx .normal []).chan.stream = [] ∧
    ((rx .marked [0x00]).params.stopAtRead = false ∧
      after (·.phase) (step (rx .marked [0x00])) = some .idle) := by decide
theorem witness_BreakIsRecognisedFromStateZero :
    ∀ d : DecState, (rx d [0xFF, 0x00, 0x00, 0x8B]).undisturbed 3 ∧ (rx d [0xFF, 0x00, 0x00, 0x8B]).phase = .rx ∧
      (rx d [0xFF, 0x00, 0x00, 0x8B]).stopsAtRead = false ∧
      (rx d [0xFF, 0x00, 0x00, 0x8B]).chan.stream = [0xFF, 0x00, 0x00] ++ [0x8B] ∧ (rx d []).ds = d ∧
      ({ rx d [] with rxlen := 29 } : State).rxlen.toNat + 3 ≤ 32 ∧
      ({ rx d [] with rxlen := 30 } : State).rxlen.toNat + 2 ≤ 32 :=
  fun d => ⟨⟨by cases d <;> rfl, [0], by cases d <;> rfl⟩, rfl, by cases d <;> rfl, rfl, rfl, by cases d <;> decide, by cases d <;> decide⟩
/-- A telegram of 32 bytes of 0xFF, the longest marked form. -/
theorem witness_DecodingTheMarkedFormGivesTheTelegram :
    ∃ s : State, (List.replicate 32 (0xFF : Byte)).length ≤ 32 ∧ s.phase = .idle ∧ s.stopreq = false ∧
      s.mustHunt = false ∧ s.undisturbed (markedForm (List.replicate 32 0xFF)).length ∧
      s.chan.stream = markedForm (List.replicate 32 0xFF) ++ [0x8B] :=
  ⟨{ idle with
      chan := { idle.chan with stream := markedForm (List.replicate 32 0xFF) ++ [0x8B] },
      env := { idle.env with bursts := List.replicate 67 0 } },
    by decide, rfl, rfl, rfl, ⟨rfl, [], by decide⟩, rfl⟩
/-- V-RX-14's bytes, with an errored byte and a doubled 0xFF before the break, and nothing before it. -/
theorem witness_HuntDiscardsUpToTheFirstBreak :
    (∃ s : State, ([0x8B] : List Byte).length ≤ 32 ∧ s.phase = .idle ∧ s.stopreq = false ∧ s.mustHunt = true ∧
      lineBreak ∉ [.good 0x55, .errored 0x66, .good 0xFF] ∧
      s.undisturbed ((markAll ([.good 0x55, .errored 0x66, .good 0xFF] ++ [lineBreak])).length +
        (markedForm [0x8B]).length) ∧
      s.chan.stream = markAll ([.good 0x55, .errored 0x66, .good 0xFF] ++ [lineBreak]) ++ markedForm [0x8B] ++ []) ∧
    lineBreak ∉ ([] : List LineEvent) :=
  ⟨⟨{ idle with
      params := ⟨true, false⟩,
      chan := { idle.chan with
        stream := markAll ([.good 0x55, .errored 0x66, .good 0xFF] ++ [lineBreak]) ++ markedForm [0x8B] ++ [] },
      env := { idle.env with bursts := List.replicate 13 0 } },
    by decide, rfl, rfl, rfl, by decide, ⟨rfl, [], by decide⟩, rfl⟩, by decide⟩
theorem witness_OnlyAppendWritesRxbuf :
    after (fun t => (t.rxbuf[31], t.rxlen)) (step { rx .normal [0x12] with rxlen := 31 }) = some (0x12, 32) ∧
    ({ rx .normal [0x12] with rxlen := 31 } : State).rxbuf[31] = 0x00 := by decide
theorem witness_ReceiveStepsMoveTheirCounters :
    ∃ t u : State, (rx .sawFF [0x01]).env.outsideTurns = 0 ∧ (rx .sawFF [0x01]).stopsAtRead = false ∧
      (rx .sawFF [0x01]).chan.stream = 0x01 :: [] ∧ step (rx .sawFF [0x01]) = .next t ∧
      step (hunt .sawFF [0x01]) = .next u ∧ (hunt .sawFF [0x01]).phase = .rxHunt ∧ (rx .sawFF [0x01]).phase = .rx :=
  ⟨_, _, rfl, rfl, rfl, rfl, rfl, rfl, rfl⟩
theorem witness_BoundedReadReturnsByteOrTimeout :
    (tx .txEcho1 0 []).chan.stream = [] ∧
    ((tx .txEcho1 0 [0x10]).chan.stream = 0x10 :: [] ∧ timeoutDrawn (tx .txEcho1 0 [0x10]) = false) ∧
    timeoutDrawn { tx .txEcho1 0 [0x10] with env := { idle.env with timeouts := [true] } } = true := by decide
theorem witness_WriteStep :
    ((tx .txWrite 1 []).env.outsideTurns = 0 ∧ (tx .txWrite 1 []).phase = .txWrite ∧
      (tx .txWrite 1 []).txbuf[(tx .txWrite 1 []).txidx.toNat]? = some 0xFF) ∧
    writeAnswer (tx .txWrite 1 []).seqTurn = .ok ∧
    writeAnswer ({ tx .txWrite 1 [] with env := { idle.env with writes := [.fail] } } : State).seqTurn = .fail := by decide
theorem witness_FirstEchoStep :
    (tx .txEcho1 0 []).env.outsideTurns = 0 ∧ (tx .txEcho1 0 []).phase = .txEcho1 ∧
    (tx .txEcho1 0 []).txbuf[(tx .txEcho1 0 []).txidx.toNat]? = some 0x10 ∧
    (tx .txEcho1 1 []).txbuf[(tx .txEcho1 1 []).txidx.toNat]? = some 0xFF ∧
    boundedAnswer (tx .txEcho1 0 []).seqTurn = .timeout ∧ boundedAnswer (tx .txEcho1 0 [0xFF]).seqTurn = .byte 0xFF ∧
    boundedAnswer (tx .txEcho1 0 [0x10]).seqTurn = .byte 0x10 ∧ boundedAnswer (tx .txEcho1 1 [0xFF]).seqTurn = .byte 0xFF := by
  decide
theorem witness_SecondEchoStep :
    (tx .txEcho2 1 []).env.outsideTurns = 0 ∧ (tx .txEcho2 1 []).phase = .txEcho2 ∧
    boundedAnswer (tx .txEcho2 1 []).seqTurn = .timeout ∧ boundedAnswer (tx .txEcho2 1 [0x00]).seqTurn = .byte 0x00 ∧
    boundedAnswer (tx .txEcho2 1 [0xFF]).seqTurn = .byte 0xFF := by decide
theorem witness_BreakGenerationSteps :
    (tx .txBrkOn 2 []).env.outsideTurns = 0 ∧ (tx .txBrkOn 2 []).phase = .txBrkOn ∧
    (tx .txBrkWr 2 []).phase = .txBrkWr ∧ (tx .txBrkOff 2 []).phase = .txBrkOff ∧ (tx .txBrkOff 2 []).brkfail = false ∧
    ({ tx .txBrkOff 2 [] with brkfail := true } : State).brkfail = true := by decide
theorem witness_AcknowledgmentSymbols :
    (tx .txAck 2 []).ackpos = 0 ∧ ({ tx .txAck 2 [] with ackpos := 1 } : State).ackpos = 1 ∧
    ({ tx .txAck 2 [] with ackpos := 2 } : State).ackpos = 2 := by decide
theorem witness_AcknowledgmentStep :
    (tx .txAck 2 []).env.outsideTurns = 0 ∧ (tx .txAck 2 []).phase = .txAck ∧ (tx .txAck 2 []).ackpos.toNat < 3 ∧
    boundedAnswer (tx .txAck 2 []).seqTurn = .timeout ∧ boundedAnswer (tx .txAck 2 [0xFE]).seqTurn = .byte 0xFE ∧
    ([0xFF, 0x00, 0x00] : List Byte)[(tx .txAck 2 []).ackpos.toNat]? = some 0xFF ∧
    ({ tx .txAck 2 [0x00] with ackpos := 2 } : State).ackpos.toNat = 2 ∧
    boundedAnswer ({ tx .txAck 2 [0x00] with ackpos := 2 } : State).seqTurn = .byte 0x00 := by decide
/-- The XMIT that ends for want of an echo. -/
theorem witness_CodesSayHowFarAnXmitCame :
    ∃ t : State, (tx .txEcho1 1 []).Inv ∧ (tx .txEcho1 1 []).txBusy = true ∧ step (tx .txEcho1 1 []) = .next t ∧
      t.txBusy = false := ⟨_, tx_inv, rfl, rfl, rfl⟩
/-- V-TX-02, with one byte more queued. -/
theorem witness_SuccessfulXmitIssuesItsPrimitivesInOrder :
    ∃ s : State, s.Inv ∧ s.phase = .idle ∧ s.stopreq = false ∧ 1 ≤ s.txlen.toNat ∧ s.txlen.toNat ≤ 32 ∧
      [0x10, 0xFF, 0x20] = txTelegram s ∧ s.undisturbed (2 * 3 + [0x10, 0xFF, 0x20].count (0xFF : Byte) + 6) ∧
      s.env.writes = List.replicate (3 + 1) .ok ++ [] ∧
      s.env.timeouts = List.replicate (markedForm [0x10, 0xFF, 0x20]).length false ++ [] ∧
      s.chan.stream = markedForm [0x10, 0xFF, 0x20] ++ [0x8B] :=
  ⟨{ idle with
      txbuf := (((Vector.replicate 32 0).set 0 0x10).set 1 0xFF).set 2 0x20, txlen := 3,
      chan := { idle.chan with stream := markedForm [0x10, 0xFF, 0x20] ++ [0x8B] },
      env := { idle.env with
        bursts := List.replicate 13 0, writes := List.replicate 4 .ok, timeouts := List.replicate 7 false } },
    by constructor <;> constructor <;> decide, rfl, rfl, by decide, by decide, by decide, ⟨rfl, [], by decide⟩, rfl,
    by decide, rfl⟩
theorem witness_MarkedBytesOfLineEvents : (0xFE : Byte) ≠ 0xFF ∧ (0x01 : Byte) ≠ 0x00 := by decide
theorem witness_TransmitCountersCountXmits :
    after (·.cntTxTotal) (step (outside (.host (cmdWord 0x02)) { idle with txlen := 1 })) = some 1 ∧
    after (·.cntTxFail) (step (tx .txEcho1 1 [])) = some 1 ∧
    (tx .txEcho1 1 []).txBusy = true := by decide
theorem witness_TokenClassOfEveryByte :
    (0x80 : Byte) ≤ 0x80 ∧ (0x80 : Byte) ≤ 0xFF ∧ ((0x08 : Byte) ≤ 0x08 ∧ (0x08 : Byte) ≤ 0x7F) ∧
    ((0x08 : Byte) ≤ 0x7F ∧ (0x7F : Byte) ≤ 0x7F) ∧ ((0x02 : Byte) ≤ 0x07 ∧ (0x07 : Byte) ≤ 0x07) := by decide
theorem witness_DataTelegramLayout :
    3 ≤ ([0x01, 0x02, 0x03] : List Byte).length ∧ ([0x01, 0x02, 0x03, 0x04, 0x05] : List Byte).length < 6 := by decide
/-- A step with each kind of primitive, and one with none. -/
theorem witness_OnePrimitivePerStepInItsPhase :
    after (·.chan.calls.length) (step idle) = some 0 ∧ after (·.chan.calls.length) (step (rx .normal [0x12])) = some 1 ∧
    after (·.chan.calls.length) (step (tx .txEcho2 1 [])) = some 1 ∧
    after (·.chan.calls.length) (step (tx .txAck 2 [])) = some 1 ∧
    after (·.chan.calls.length) (step (tx .txWrite 0 [])) = some 1 ∧
    after (·.chan.calls.length) (step (tx .txBrkOn 2 [])) = some 1 ∧
    after (·.chan.calls.length) (step (tx .txBrkOff 2 [])) = some 1 ∧
    after (·.chan.calls.length)
      (step (outside (.host (cmdWord 0x10)) { off with env := { off.env with opens := [.ok] } })) = some 1 ∧
    after (·.chan.calls.length) (step { idle with stopreq := true }) = some 1 := by decide
theorem witness_PhasesFollowTheirRules :
    ∃ t : State, step (tx .txEcho2 1 [0xFF]) = .next t ∧ t.phase ≠ (tx .txEcho2 1 [0xFF]).phase :=
  ⟨_, rfl, by decide⟩
theorem witness_SequencerLeavesTheHostsFields :
    ∃ t : State, (tx .txWrite 1 []).env.outsideTurns = 0 ∧ step (tx .txWrite 1 []) = .next t ∧
      ({ idle with stopreq := true } : State).stopreq = true := ⟨_, rfl, rfl, rfl⟩
/-- A byte that arrives in IDLE, and commands refused while a RECV and an XMIT run (V-RX-17, V-CT-14). -/
theorem witness_OutsideLeavesReceivedBytesAndARunningCommand :
    ∃ t u v : State, (outside (.arrive 0xFF) idle).env.outsideTurns ≠ 0 ∧
      step (outside (.arrive 0xFF) idle) = .next t ∧ idle.phase ≠ .off ∧
      step (outside (.host (cmdWord 0x01)) (rx .sawFF [])) = .next u ∧ (rx .sawFF []).busy = true ∧ u.cmderr = true ∧
      step (outside (.host (cmdWord 0x02)) (tx .txAck 2 [])) = .next v ∧ (tx .txAck 2 []).txBusy = true ∧
      v.cmderr = true :=
  ⟨_, _, _, by decide, rfl, by decide, rfl, by decide, by decide, rfl, by decide, by decide⟩
theorem witness_TraceEventsAreNeverReadBack :
    ∃ t : State, step { rx .normal [0x12] with logmask := 0x3F } = .next t ∧ t.sink = [(.byteTrace, .byte 0x12)] :=
  ⟨_, rfl, by decide⟩
theorem witness_LogmaskAffectsOnlyTheTrace :
    ∃ t : State, (rx .normal [0x12]).env.outsideTurns = 0 ∧ step (rx .normal [0x12]) = .next t := ⟨_, rfl, rfl⟩

end Sys2Proof.Tests
end

section
/-! PROOFS. What one turn comes to: the step as the fetch followed by the run of what it fetched, and everything a
turn of the outside can do. -/

namespace Sys2Proof.Machine

open Sys2Proof

/-! ### The step as the fetch, then the run -/

/-- R13: what becomes of a turn once it is fetched. -/
def runFetched (f : Fetched) : Host.Outcome State Fault Refusal :=
  match f with
  | .done t => .next t
  | .stuck r => .refused r
  | .run e t =>
    match decode e with
    | .ok i => exec i t
    | .error r => .refused (.rejected r)

/-- The step is the fetch and then the run of what it fetched. -/
theorem step_eq_runFetched (s : State) : step s = runFetched (fetch s) := rfl

@[simp] theorem runFetched_done (t : State) : runFetched (.done t) = .next t := rfl

@[simp] theorem runFetched_stuck (r : Refusal) : runFetched (.stuck r) = .refused r := rfl

theorem runFetched_run {e : Encoded} {i : Instr} (h : decode e = .ok i) (t : State) :
    runFetched (.run e t) = exec i t := by
  simp only [runFetched, h]

/-- A fetched word that leads to a next state was decoded, and its instruction led there. -/
theorem exists_exec_of_runFetched_run {e : Encoded} {u t : State} (h : runFetched (.run e u) = .next t) :
    ∃ i, decode e = .ok i ∧ exec i u = .next t := by
  cases hd : decode e with
  | ok i => exact ⟨i, rfl, by rw [← runFetched_run hd, h]⟩
  | error r => simp [runFetched, hd] at h

/-- The step in a turn of the outside. -/
theorem step_of_outside {s : State} {n : Nat} (h : s.env.outsideTurns = n + 1) :
    step s = runFetched (outsideTurn { s with env := { s.env with outsideTurns := n } }) := by
  rw [step_eq_runFetched, fetch_of_outside h]

/-- The step in the sequencer's turn. -/
theorem step_of_sequencer {s : State} (h : s.env.outsideTurns = 0) :
    step s = runFetched (sequencerTurn s.seqTurn) := by
  rw [step_eq_runFetched, fetch_of_sequencer h]

/-! ### The turn of the outside -/

theorem decode_host (w : HostWord) : decode (.host w) = .ok (decodeHost w) := rfl

theorem decode_token (b : Byte) : decode (.token b) = .ok (decodeToken b) := rfl

/-- R341: the wait reads STATUS. -/
@[simp] theorem decodeHost_rd_status : decodeHost (rd 0x01) = .hostRead 0x01 0 := by decide

/-- R13: the turn of the outside when the tape names its event. -/
theorem step_of_event {s : State} {n : Nat} {v : Event} {es : List Event} (hn : s.env.outsideTurns = n + 1)
    (hv : s.env.events = v :: es) :
    step s = match v with
      | .host w => exec (decodeHost w) s.outTurn
      | .arrive b => .next (arrive b s.outTurn)
      | .classify b => exec (decodeToken b) s.outTurn
      | .wait => exec (.hostRead 0x01 0)
          (if s.busy then { s with env := { s.env with outsideTurns := n } } else s.outTurn) := by
  have hu : s.outTurn = { s with env := { s.env with outsideTurns := n, events := es } } := by
    simp only [State.outTurn, hn, hv, Nat.add_sub_cancel, List.tail_cons]
  rw [step_of_outside hn, hu]
  cases v with
  | host w => simp only [outsideTurn, nextEvent, useEvent, hv, runFetched_run (decode_host w)]
  | arrive b => simp only [outsideTurn, nextEvent, useEvent, hv, runFetched_done]
  | classify b => simp only [outsideTurn, nextEvent, useEvent, hv, runFetched_run (decode_token b)]
  | wait =>
    simp only [outsideTurn, nextEvent, useEvent, hv, runFetched_run (decode_host _), decodeHost_rd_status]
    rw [← hv]
    rfl

/-- R301: a host word reads or writes a register, so running it answers the client or writes. -/
theorem exec_decodeHost_cases (w : HostWord) (s : State) :
    (∃ r, exec (decodeHost w) s = .next (reply r s)) ∨
      ∃ idx v, exec (decodeHost w) s = .next (writeReg idx v s) := by
  unfold decodeHost
  split
  · exact .inr ⟨_, _, rfl⟩
  · exact .inl ⟨_, rfl⟩

/-- R330: a classification answers the client. -/
theorem exec_decodeToken_eq_reply (b : Byte) (s : State) :
    ∃ r, exec (decodeToken b) s = .next (reply r s) := by
  unfold decodeToken
  split_ifs <;> exact ⟨_, rfl⟩

/-- R501: an outside turn's inputs leave the turns that were still to come. -/
@[simp] theorem useEvent_outsideTurns (e : Env) : (useEvent e).outsideTurns = e.outsideTurns := by
  unfold useEvent
  split <;> rfl

/-- R13, R224, R301, R330: everything a turn of the outside can do, once its inputs are taken. -/
theorem step_of_outside_cases {s : State} {n : Nat} (h : s.env.outsideTurns = n + 1) :
    ∃ e : Env, e.outsideTurns = n ∧
      (step s = .next { s with env := e } ∨
        (∃ b, step s = .next (arrive b { s with env := e })) ∨
        (∃ r, step s = .next (reply r { s with env := e })) ∨
        ∃ idx v, step s = .next (writeReg idx v { s with env := e })) := by
  simp only [step_of_outside h, outsideTurn]
  split
  · exact ⟨_, useEvent_outsideTurns _, .inl rfl⟩
  next w _ =>
    refine ⟨useEvent { s.env with outsideTurns := n }, useEvent_outsideTurns _, .inr (.inr ?_)⟩
    rw [runFetched_run (decode_host w)]
    exact exec_decodeHost_cases w _
  · exact ⟨_, useEvent_outsideTurns _, .inr (.inl ⟨_, rfl⟩)⟩
  next b _ =>
    refine ⟨useEvent { s.env with outsideTurns := n }, useEvent_outsideTurns _, .inr (.inr (.inl ?_))⟩
    rw [runFetched_run (decode_token b)]
    exact exec_decodeToken_eq_reply b _
  · simp only [runFetched_run (decode_host _), decodeHost_rd_status]
    split
    · exact ⟨{ useEvent _ with events := _ }, useEvent_outsideTurns _, .inr (.inr (.inl ⟨_, rfl⟩))⟩
    · exact ⟨_, useEvent_outsideTurns _, .inr (.inr (.inl ⟨_, rfl⟩))⟩

end Sys2Proof.Machine
end

section
/-! PROOFS. The step's wiring: the instruction a step runs, and the event an outside turn does. -/

namespace Sys2Proof.Machine

open Sys2Proof

/-- Settles O9: the step is the fetch followed by the run of what it fetched. -/
theorem stepRunsTheFetchedInstruction : Obligations.StepRunsTheFetchedInstruction := by
  intro s t e i hf hd
  rw [step_eq_runFetched, hf, runFetched_run hd]

/-- Settles O10: the event at the head of the tape, case by case. -/
theorem outsideTurnDoesTheNextEvent : Obligations.OutsideTurnDoesTheNextEvent := by
  intro s n es hn
  refine ⟨fun _ => step_of_event hn, fun _ => step_of_event hn, fun _ => step_of_event hn,
    fun hv hb => ?_, fun hv hb => ?_⟩
  · simpa [hb] using step_of_event hn hv
  · simpa [hb] using step_of_event hn hv

end Sys2Proof.Machine
end

section
/-! PROOFS. Which primitives each operation adds to the record, and the phase in which a step performs each (R471). -/

namespace Sys2Proof.Machine

open Sys2Proof

/-! ### What each operation adds to the record -/

/-- R229: an `Open()` is recorded with its answer. -/
@[simp] theorem openPort_calls (s : State) :
    (openPort s).chan.calls = s.chan.calls ++ [.openPort (openAnswer s)] := by
  cases h : openAnswer s with
  | ok => rw [openPort_of_ok h]
  | fail => rw [openPort_of_fail h]

/-- R500: a START records its `Open()`. -/
@[simp] theorem acceptedStart_calls (s : State) :
    (acceptedStart s).chan.calls = s.chan.calls ++ [.openPort (openAnswer s)] := by
  have ho : openAnswer { s with cmderr := false } = openAnswer s := rfl
  unfold acceptedStart
  cases h : openAnswer s <;> simp [ho, h]

/-- R13, R500: of the host's writes only a START in OFF touches the record. -/
theorem writeReg_calls (idx : BitVec 8) (v : Reg) (s : State) :
    (writeReg idx v s).chan.calls = s.chan.calls ∨
      s.phase = .off ∧ (writeReg idx v s).chan.calls = s.chan.calls ++ [.openPort (openAnswer s)] := by
  obtain h | ⟨_, _, h⟩ | ⟨_, h⟩ | h | ⟨_, h⟩ | ⟨_, h⟩ | ⟨ha, h⟩ | ⟨_, h⟩ := writeReg_cases idx v s
  case inr.inr.inr.inr.inr.inr.inl =>
    rw [h]
    exact .inr ⟨by simpa [State.acceptsStart] using ha, acceptedStart_calls s⟩
  all_goals
    rw [h]
    exact .inl (by simp)

/-- R404: an effect that spares the channel spares it when the hunt leaves it out. -/
theorem unlessHunting_chan {f : State → State} {s : State} (h : (f s).chan = s.chan) :
    (unlessHunting f s).chan = s.chan := by
  unfold unlessHunting
  split
  · rfl
  · exact h

/-- R465: matching a byte of `ACK_SEQ` performs no primitive. -/
@[simp] theorem ackMatched_chan (s : State) : (ackMatched s).chan = s.chan := by
  obtain ⟨_, h⟩ | ⟨_, h⟩ := ackMatched_cases s <;> simp [h]

/-- R452: the write step is one `TxWrite` of the byte. -/
@[simp] theorem stepTxWrite_calls (b : Byte) (s : State) :
    (stepTxWrite b s).chan.calls = s.chan.calls ++ [.txWrite b s.chan.parity (writeAnswer s)] := by
  unfold stepTxWrite
  cases h : writeAnswer s <;> simp [h]

/-- R453: the first echo's step is one read within `T_ECHO`. -/
@[simp] theorem stepTxEcho1_calls (b : Byte) (s : State) :
    (stepTxEcho1 b s).chan.calls = s.chan.calls ++ [.rxRead .tEcho (boundedAnswer s)] := by
  unfold stepTxEcho1
  cases h : boundedAnswer s with
  | timeout => simp [h]
  | byte e =>
    dsimp only
    split_ifs <;> simp [h]

/-- R456: the second echo's step is one read within `T_ECHO`. -/
@[simp] theorem stepTxEcho2_calls (s : State) :
    (stepTxEcho2 s).chan.calls = s.chan.calls ++ [.rxRead .tEcho (boundedAnswer s)] := by
  unfold stepTxEcho2
  cases h : boundedAnswer s with
  | timeout => simp [h]
  | byte e =>
    dsimp only
    split_ifs <;> simp [h]

/-- R460. -/
@[simp] theorem stepTxBrkOn_calls (s : State) :
    (stepTxBrkOn s).chan.calls = s.chan.calls ++ [.setParity .even] := rfl

/-- R461. -/
@[simp] theorem stepTxBrkWr_calls (s : State) :
    (stepTxBrkWr s).chan.calls = s.chan.calls ++ [.txWrite 0x00 s.chan.parity (writeAnswer s)] := rfl

/-- R462. -/
@[simp] theorem stepTxBrkOff_calls (s : State) :
    (stepTxBrkOff s).chan.calls = s.chan.calls ++ [.setParity .off] := by
  unfold stepTxBrkOff
  dsimp only
  split_ifs <;> simp

/-! ### Instructions that are symbols -/

/-- R300: an instruction's word has the format of the word it was decoded from. -/
theorem encode_format_of_decode {e : Encoded} {i : Instr} (h : decode e = .ok i) : (encode i).format = e.format := by
  cases e with
  | host w =>
    cases h
    unfold decodeHost
    split <;> rfl
  | cmd op =>
    simp only [decode, decodeCmd] at h
    split at h <;> cases h <;> rfl
  | rxsym w =>
    simp only [decode, decodeRx] at h
    split_ifs at h <;> cases h <;> rfl
  | acksym w =>
    cases h
    unfold decodeAck
    dsimp only
    split_ifs <;> rfl
  | token b =>
    cases h
    unfold decodeToken
    split_ifs <;> rfl

/-- R405, R465: running a receive or an acknowledgment symbol performs no primitive; its byte was read by the fetch. -/
theorem exec_symbol_chan {i : Instr} {s t : State}
    (hi : (encode i).format = .rxsym ∨ (encode i).format = .acksym) (h : exec i s = .next t) : t.chan = s.chan := by
  cases i with
  | hostRead | hostWrite | recv | xmit | start | stop | tokenAck | tokenUnknown | tokenAssign | tokenRelease =>
    simp [encode, Encoded.format] at hi
  | s0Esc | s1Mark => cases h; rfl
  | s0Lit | s1Ff | s1Bad | s2Bad => cases h; exact unlessHunting_chan (by simp)
  | s2Break => cases h; split <;> simp
  | ackB0 | ackB1 | ackB2 => cases h; exact ackMatched_chan s
  | ackBad pos a => cases h; simp

/-- A fetched symbol that leads to a next state performs no primitive after its fetch. -/
theorem runFetched_symbol_chan {e : Encoded} {u t : State} (he : e.format = .rxsym ∨ e.format = .acksym)
    (h : runFetched (.run e u) = .next t) : t.chan = u.chan := by
  obtain ⟨i, hd, hx⟩ := exists_exec_of_runFetched_run h
  exact exec_symbol_chan (by rwa [encode_format_of_decode hd]) hx

/-! ### A step's primitive -/

/-- R471: the primitive `c` is one that a step from `s` may perform. -/
def PrimitiveFits (s : State) (c : Call) : Prop :=
  match c with
  | .rxRead .inf _ => s.env.outsideTurns = 0 ∧ (s.phase = .rx ∨ s.phase = .rxHunt)
  | .rxRead .tEcho _ => s.env.outsideTurns = 0 ∧ (s.phase = .txEcho1 ∨ s.phase = .txEcho2)
  | .rxRead .tAck _ => s.env.outsideTurns = 0 ∧ s.phase = .txAck
  | .txWrite b _ _ => s.env.outsideTurns = 0 ∧
      ((s.phase = .txWrite ∧ txByte s = some b) ∨ (s.phase = .txBrkWr ∧ b = 0x00))
  | .setParity .even => s.env.outsideTurns = 0 ∧ s.phase = .txBrkOn
  | .setParity .off => s.env.outsideTurns = 0 ∧ s.phase = .txBrkOff
  | .openPort _ => s.env.outsideTurns ≠ 0 ∧ s.phase = .off
  | .closePort => s.env.outsideTurns = 0 ∧ s.phase = .idle ∧ s.stopreq = true

/-- From `s` to `t` the record stays or grows by one primitive that fits `s`. -/
def AtMostOnePrimitive (s t : State) : Prop :=
  t.chan.calls = s.chan.calls ∨ ∃ c, t.chan.calls = s.chan.calls ++ [c] ∧ PrimitiveFits s c

/-- A turn of the outside performs at most an `Open`, in OFF. -/
theorem atMostOnePrimitive_of_outside {s t : State} {n : Nat} (hn : s.env.outsideTurns = n + 1)
    (h : step s = .next t) : AtMostOnePrimitive s t := by
  have h0 : s.env.outsideTurns ≠ 0 := by omega
  obtain ⟨e, _, hs | ⟨b, hs⟩ | ⟨r, hs⟩ | ⟨idx, v, hs⟩⟩ := step_of_outside_cases hn <;> rw [h] at hs <;> cases hs
  · exact .inl rfl
  · exact .inl rfl
  · exact .inl rfl
  · obtain hw | ⟨hp, hw⟩ := writeReg_calls idx v { s with env := e }
    · exact .inl hw
    · exact .inr ⟨_, hw, h0, hp⟩

/-- R403, R404, R419: a receive step performs at most one unbounded read. -/
theorem rxTurn_primitive {s t : State} (h : runFetched (rxTurn s) = .next t) :
    t.chan.calls = s.chan.calls ∨ ∃ b, t.chan.calls = s.chan.calls ++ [.rxRead .inf (.byte b)] := by
  unfold rxTurn at h
  split at h
  · cases h
    exact .inl (by simp)
  · split at h
    · cases h
      exact .inl rfl
    next b _ =>
      refine .inr ⟨b, ?_⟩
      rw [runFetched_symbol_chan (.inl rfl) h, unlessHunting_chan (by simp)]
      simp

/-- R465: an acknowledgment step performs one read within `T_ACK`. -/
theorem ackTurn_primitive {s t : State} (h : runFetched (ackTurn s) = .next t) :
    t.chan.calls = s.chan.calls ++ [.rxRead .tAck (boundedAnswer s)] := by
  unfold ackTurn at h
  split at h
  · cases h
    simp
  · rw [runFetched_symbol_chan (.inr rfl) h]
    simp

/-- A step that reads `TXBUF[TXIDX]` and goes on had a byte there. -/
theorem withTxByte_next {f : Byte → State → State} {s t : State} (h : runFetched (withTxByte f s) = .next t) :
    ∃ b, txByte s = some b ∧ t = f b s := by
  unfold withTxByte at h
  split at h
  next b hb =>
    cases h
    exact ⟨b, hb, rfl⟩
  · cases h

/-- R501: a turn of the sequencer performs at most one primitive, that of its phase. -/
theorem atMostOnePrimitive_of_sequencer {s t : State} (h0 : s.env.outsideTurns = 0) (h : step s = .next t) :
    AtMostOnePrimitive s t := by
  rw [step_of_sequencer h0] at h
  have hphase : s.seqTurn.phase = s.phase := rfl
  cases hp : s.phase <;> simp only [sequencerTurn, hphase, hp] at h
  case off =>
    cases h
    exact .inl rfl
  case idle =>
    cases h
    split
    next hq => exact .inr ⟨.closePort, by simp, h0, hp, hq⟩
    · exact .inl rfl
  case rxHunt =>
    exact (rxTurn_primitive h).imp_right fun ⟨_, hc⟩ => ⟨_, hc, h0, .inr hp⟩
  case rx =>
    exact (rxTurn_primitive h).imp_right fun ⟨_, hc⟩ => ⟨_, hc, h0, .inl hp⟩
  case txWrite =>
    obtain ⟨b, hb, rfl⟩ := withTxByte_next h
    exact .inr ⟨_, stepTxWrite_calls b _, h0, .inl ⟨hp, hb⟩⟩
  case txEcho1 =>
    obtain ⟨b, _, rfl⟩ := withTxByte_next h
    exact .inr ⟨_, stepTxEcho1_calls b _, h0, .inl hp⟩
  case txEcho2 =>
    cases h
    exact .inr ⟨_, stepTxEcho2_calls _, h0, .inr hp⟩
  case txBrkOn =>
    cases h
    exact .inr ⟨_, stepTxBrkOn_calls _, h0, hp⟩
  case txBrkWr =>
    cases h
    exact .inr ⟨_, stepTxBrkWr_calls _, h0, .inr ⟨hp, rfl⟩⟩
  case txBrkOff =>
    cases h
    exact .inr ⟨_, stepTxBrkOff_calls _, h0, hp⟩
  case txAck =>
    exact .inr ⟨_, ackTurn_primitive (s := s.seqTurn) h, h0, hp⟩

/-- Settles O55: by whose turn the step is. -/
theorem onePrimitivePerStepInItsPhase : Obligations.OnePrimitivePerStepInItsPhase := by
  intro s t h
  by_cases h0 : s.env.outsideTurns = 0
  · exact atMostOnePrimitive_of_sequencer h0 h
  · obtain ⟨n, hn⟩ := Nat.exists_eq_succ_of_ne_zero h0
    exact atMostOnePrimitive_of_outside hn h

end Sys2Proof.Machine
end

section
/-! PROOFS. The sink is written and never read (R12): two states that differ in their sinks only take the same step and
add the same events. -/

namespace Sys2Proof.Machine

open Sys2Proof

/-! ### Twins: states that differ in the sink only -/

/-- What the sink holds. -/
abbrev Sink := List (LogCat × TraceData)

/-- The states of two runs that differ in the sink only: it held `p` in the one and `q` in the other, and both have
added the same events since. -/
def SinkTwin (p q : Sink) (a b : State) : Prop :=
  ∃ more, a.sink = p ++ more ∧ b = { a with sink := q ++ more }

/-- An operation that never reads the sink and adds the same events whatever is in it. -/
def SinkBlind (f : State → State) : Prop :=
  ∀ ⦃p q : Sink⦄ ⦃a b : State⦄, SinkTwin p q a b → SinkTwin p q (f a) (f b)

/-- What two turns fetch that differ in the sink only. -/
inductive FetchTwin (p q : Sink) : Fetched → Fetched → Prop where
  | done {a b : State} (h : SinkTwin p q a b) : FetchTwin p q (.done a) (.done b)
  | run (e : Encoded) {a b : State} (h : SinkTwin p q a b) : FetchTwin p q (.run e a) (.run e b)
  | stuck (r : Refusal) : FetchTwin p q (.stuck r) (.stuck r)

theorem SinkTwin.start (a : State) (q : Sink) : SinkTwin a.sink q a { a with sink := q } :=
  ⟨[], by simp, by simp⟩

/-- What does not depend on the sink is the same for twins. -/
theorem SinkTwin.observe {α : Type} {p q : Sink} {a b : State} (h : SinkTwin p q a b) (g : State → α)
    (hg : ∀ (s : State) (k : Sink), g { s with sink := k } = g s) : g b = g a := by
  obtain ⟨more, _, rfl⟩ := h
  exact hg a _

/-- An operation that commutes with every change of the sink adds no event. -/
theorem SinkBlind.of_commutes {f : State → State}
    (hf : ∀ (s : State) (k : Sink), f { s with sink := k } = { f s with sink := k }) : SinkBlind f := by
  rintro p q a b ⟨more, ha, rfl⟩
  have hs : (f a).sink = a.sink := (congrArg State.sink (hf a a.sink) :)
  exact ⟨more, hs.trans ha, hf a _⟩

theorem SinkBlind.comp {f g : State → State} (hf : SinkBlind f) (hg : SinkBlind g) : SinkBlind fun s => f (g s) :=
  fun _ _ _ _ h => hf (hg h)

/-- Twins stay twins under one update of fields other than the sink. -/
theorem SinkTwin.update {p q : Sink} {a b : State} (h : SinkTwin p q a b) (f : State → State)
    (hf : ∀ (s : State) (k : Sink), f { s with sink := k } = { f s with sink := k }) : SinkTwin p q (f a) (f b) :=
  SinkBlind.of_commutes hf h

/-- A choice between two operations by a condition that does not depend on the sink. -/
theorem SinkBlind.ite {c : State → Prop} [DecidablePred c] {f g : State → State}
    (hc : ∀ (s : State) (k : Sink), c { s with sink := k } ↔ c s) (hf : SinkBlind f) (hg : SinkBlind g) :
    SinkBlind fun s => if c s then f s else g s := by
  intro p q a b h
  have hcb : c b ↔ c a := iff_of_eq (h.observe c fun s k => propext (hc s k))
  by_cases ha : c a
  · simpa only [hcb, ha, if_true] using hf h
  · simpa only [hcb, ha, if_false] using hg h

/-! ### Every operation is blind to the sink

An operation that traces nothing commutes with a change of the sink by computation, so only those that trace or choose
have a lemma here. -/

/-- R12, R513: a trace event joins both sinks, or neither. -/
theorem trace_sinkBlind (c : LogCat) (d : TraceData) : SinkBlind (trace c d) := by
  rintro p q a b ⟨more, ha, rfl⟩
  by_cases hm : a.logmask.getLsbD (logBit c) = true
  · exact ⟨more ++ [(c, d)], by simp [trace_eq, hm, ha], by simp [trace_eq, hm]⟩
  · exact ⟨more, by simp [trace_eq, hm, ha], by simp [trace_eq, hm]⟩

theorem reject_sinkBlind : SinkBlind reject := .of_commutes fun _ _ => rfl

/-- R470: the end of an XMIT traces a failure only. -/
theorem finishTx_sinkBlind (code : TxCode) : SinkBlind (finishTx code) := by
  by_cases hc : code = .ok
  · subst hc
    exact .of_commutes fun _ _ => rfl
  · intro p q a b h
    have h1 := h.update (fun s => { s with txcode := code, cntTxFail := s.cntTxFail.succ }) fun _ _ => rfl
    have h2 := trace_sinkBlind .error (.code code) h1
    simp only [finishTx, if_neg hc]
    exact h2.update (fun s => { s with txDone := true, phase := .idle }) fun _ _ => rfl

/-- R417: only the first overflow is traced. -/
theorem append_sinkBlind (v : Byte) : SinkBlind (append v) :=
  .ite (c := fun s => s.rxlen.toNat < Config.maxLen) (fun _ _ => .rfl) (.of_commutes fun _ _ => rfl)
    (.ite (c := fun s => s.rxovf = false) (fun _ _ => .rfl)
      (.comp (trace_sinkBlind _ _) (.of_commutes fun _ _ => rfl)) (.of_commutes fun _ _ => rfl))

theorem unlessHunting_sinkBlind {f : State → State} (hf : SinkBlind f) : SinkBlind (unlessHunting f) :=
  .ite (c := fun s => s.phase = .rxHunt) (fun _ _ => .rfl) (.of_commutes fun _ _ => rfl) hf

theorem escAnomaly_sinkBlind (b : Byte) : SinkBlind (escAnomaly b) :=
  .comp (f := trace .error (.byte b)) (trace_sinkBlind _ _) (.of_commutes fun _ _ => rfl)

theorem markAnomaly_sinkBlind (b : Byte) : SinkBlind (markAnomaly b) :=
  .comp (f := trace .error (.byte b)) (trace_sinkBlind _ _) (.of_commutes fun _ _ => rfl)

/-- R411, R413, R414, R416: a symbol that brings the decoder back to state 0, with an effect that only RX has. -/
theorem backToNormal_sinkBlind {f : State → State} (hf : SinkBlind f) :
    SinkBlind fun s => { unlessHunting f s with ds := .normal } :=
  fun _ _ _ _ h => (unlessHunting_sinkBlind hf h).update (fun s => { s with ds := .normal }) fun _ _ => rfl

/-- R415: the traced telegram is what was received. -/
theorem completeTelegram_sinkBlind : SinkBlind completeTelegram := by
  intro p q a b h
  have ht : rxTelegram b = rxTelegram a := h.observe rxTelegram fun _ _ => rfl
  have h1 := h.update (fun s => { s with rxDone := true }) fun _ _ => rfl
  have h2 := trace_sinkBlind .packetDump (.telegram (rxTelegram a)) h1
  simp only [completeTelegram, ht]
  exact h2.update (fun s => { s with phase := .idle }) fun _ _ => rfl

/-- R403, R415: the break symbol ends the hunt or completes the telegram. -/
theorem breakSymbol_sinkBlind : SinkBlind fun s =>
    if s.phase = .rxHunt then endHunt { s with ds := .normal } else completeTelegram { s with ds := .normal } :=
  .ite (c := fun s => s.phase = .rxHunt) (fun _ _ => .rfl) (.of_commutes fun _ _ => rfl)
    (.comp completeTelegram_sinkBlind (.of_commutes fun _ _ => rfl))

/-- R500: what a START does depends on the answer to its `Open()`. -/
theorem acceptedStart_sinkBlind : SinkBlind acceptedStart := by
  refine .of_commutes fun s k => ?_
  have ho (s' : State) (he : s'.env = s.env) : openAnswer s' = openAnswer s := by simp only [openAnswer, he]
  cases h : openAnswer s with
  | ok => simp only [acceptedStart, ho, h, openPort_of_ok]; rfl
  | fail => simp only [acceptedStart, ho, h, openPort_of_fail]

/-- R511: whether a write of TXLENR is refused depends on TXBUSY. -/
theorem writeTxlen_sinkBlind (v : Reg) : SinkBlind (writeTxlen v) :=
  .ite (c := fun s => s.txBusy = true) (fun _ _ => .rfl) reject_sinkBlind (.of_commutes fun _ _ => rfl)

/-- R511: whether a write of TXB[i] is refused depends on TXBUSY. -/
theorem writeTxb_sinkBlind (i : Fin 32) (v : Reg) : SinkBlind (writeTxb i v) :=
  .ite (c := fun s => s.txBusy = true) (fun _ _ => .rfl) reject_sinkBlind (.of_commutes fun _ _ => rfl)

/-- R502: a command is accepted or rejected by fields other than the sink. -/
theorem runCommand_sinkBlind (c : Command) : SinkBlind (runCommand c) :=
  match c with
  | .recv => .ite (c := fun s => s.acceptsRecv) (fun _ _ => .rfl) (.of_commutes fun _ _ => rfl) reject_sinkBlind
  | .xmit => .ite (c := fun s => s.acceptsXmit) (fun _ _ => .rfl) (.of_commutes fun _ _ => rfl) reject_sinkBlind
  | .start => .ite (c := fun s => s.acceptsStart) (fun _ _ => .rfl) acceptedStart_sinkBlind reject_sinkBlind
  | .stop => .ite (c := fun s => s.acceptsStop) (fun _ _ => .rfl) (.of_commutes fun _ _ => rfl) reject_sinkBlind

/-- R502, R505, R511, R512: which write it is does not depend on the state. -/
theorem writeReg_sinkBlind (idx : BitVec 8) (v : Reg) : SinkBlind (writeReg idx v) := by
  intro p q a b h
  unfold writeReg
  split
  next i _ => exact writeTxb_sinkBlind i v h
  · split_ifs
    · unfold writeCmd
      split
      next c _ => exact runCommand_sinkBlind c h
      · exact reject_sinkBlind h
    · exact writeTxlen_sinkBlind v h
    · exact h.update (fun s => { s with logmask := val6 v }) fun _ _ => rfl
    · exact reject_sinkBlind h

/-- R465. -/
theorem ackMatched_sinkBlind : SinkBlind ackMatched :=
  .ite (c := fun s => s.ackpos + 1 = 3) (fun _ _ => .rfl)
    (.comp (finishTx_sinkBlind .ok) (.of_commutes fun _ _ => rfl)) (.of_commutes fun _ _ => rfl)

/-- R452. -/
theorem stepTxWrite_sinkBlind (x : Byte) : SinkBlind (stepTxWrite x) := by
  intro p q a b h
  have hw : writeAnswer b = writeAnswer a := h.observe writeAnswer fun _ _ => rfl
  have h1 := trace_sinkBlind .byteTrace (.byte x) (h.update (txWrite x) fun _ _ => rfl)
  unfold stepTxWrite
  rw [hw]
  cases writeAnswer a with
  | fail => exact finishTx_sinkBlind .wrfail h1
  | ok => exact h1.update (fun s => { s with phase := .txEcho1 }) fun _ _ => rfl

/-- R453, R454, R455. -/
theorem stepTxEcho1_sinkBlind (x : Byte) : SinkBlind (stepTxEcho1 x) := by
  intro p q a b h
  have hr : boundedAnswer b = boundedAnswer a := h.observe boundedAnswer fun _ _ => rfl
  have h1 := h.update (rxReadBounded .tEcho) fun _ _ => rfl
  unfold stepTxEcho1
  rw [hr]
  cases boundedAnswer a with
  | timeout => exact finishTx_sinkBlind .echoTimeout h1
  | byte e =>
    dsimp only
    split_ifs
    · exact finishTx_sinkBlind .echoMismatch h1
    · exact h1.update (fun s => { s with phase := .txEcho2 }) fun _ _ => rfl
    · exact h1.update byteVerified fun _ _ => rfl

/-- R456. -/
theorem stepTxEcho2_sinkBlind : SinkBlind stepTxEcho2 := by
  intro p q a b h
  have hr : boundedAnswer b = boundedAnswer a := h.observe boundedAnswer fun _ _ => rfl
  have h1 := h.update (rxReadBounded .tEcho) fun _ _ => rfl
  unfold stepTxEcho2
  rw [hr]
  cases boundedAnswer a with
  | timeout => exact finishTx_sinkBlind .echo2Timeout h1
  | byte e =>
    dsimp only
    split_ifs
    · exact finishTx_sinkBlind .echo2Mismatch h1
    · exact h1.update byteVerified fun _ _ => rfl

/-- R462. -/
theorem stepTxBrkOff_sinkBlind : SinkBlind stepTxBrkOff :=
  .ite (c := fun s => s.brkfail = true) (fun _ _ => .rfl)
    (.comp (finishTx_sinkBlind .brkWrfail) (.of_commutes fun _ _ => rfl)) (.of_commutes fun _ _ => rfl)

/-! ### The fetch and the step -/

/-- Every instruction's meaning is an operation blind to the sink. -/
theorem exec_sinkBlind (i : Instr) : ∃ f, (∀ s, exec i s = .next (f s)) ∧ SinkBlind f := by
  cases i with
  | hostRead idx val => exact ⟨_, fun _ => rfl, .of_commutes fun _ _ => rfl⟩
  | hostWrite idx val => exact ⟨_, fun _ => rfl, writeReg_sinkBlind idx val⟩
  | recv => exact ⟨_, fun _ => rfl, runCommand_sinkBlind .recv⟩
  | xmit => exact ⟨_, fun _ => rfl, runCommand_sinkBlind .xmit⟩
  | start => exact ⟨_, fun _ => rfl, runCommand_sinkBlind .start⟩
  | stop => exact ⟨_, fun _ => rfl, runCommand_sinkBlind .stop⟩
  | s0Esc => exact ⟨_, fun _ => rfl, .of_commutes fun _ _ => rfl⟩
  | s1Mark => exact ⟨_, fun _ => rfl, .of_commutes fun _ _ => rfl⟩
  | s0Lit b => exact ⟨_, fun _ => rfl, backToNormal_sinkBlind (append_sinkBlind b)⟩
  | s1Ff => exact ⟨_, fun _ => rfl, backToNormal_sinkBlind (append_sinkBlind 0xFF)⟩
  | s1Bad b => exact ⟨_, fun _ => rfl, backToNormal_sinkBlind (escAnomaly_sinkBlind b)⟩
  | s2Bad b => exact ⟨_, fun _ => rfl, backToNormal_sinkBlind (markAnomaly_sinkBlind b)⟩
  | s2Break => exact ⟨_, fun _ => rfl, breakSymbol_sinkBlind⟩
  | ackB0 | ackB1 | ackB2 => exact ⟨_, fun _ => rfl, ackMatched_sinkBlind⟩
  | ackBad pos a => exact ⟨_, fun _ => rfl, finishTx_sinkBlind .ackMismatch⟩
  | tokenAck | tokenUnknown | tokenAssign | tokenRelease => exact ⟨_, fun _ => rfl, .of_commutes fun _ _ => rfl⟩

/-- R13: what the outside does in its turn depends on the tape and on BUSY. -/
theorem outsideTurn_fetchTwin {p q : Sink} {a b : State} (h : SinkTwin p q a b) :
    FetchTwin p q (outsideTurn a) (outsideTurn b) := by
  have he : nextEvent b.env = nextEvent a.env := h.observe (nextEvent ·.env) fun _ _ => rfl
  have hb : b.busy = a.busy := h.observe State.busy fun _ _ => rfl
  have h1 := h.update (fun s => { s with env := useEvent s.env }) fun _ _ => rfl
  unfold outsideTurn
  rw [he, hb]
  split
  · exact .done h1
  next w _ => exact .run (.host w) h1
  next x _ => exact .done (h1.update (arrive x) fun _ _ => rfl)
  next x _ => exact .run (.token x) h1
  · refine .run (.host (rd 0x01)) ?_
    split
    · exact h1.update (fun s => { s with env := { s.env with events := .wait :: s.env.events } }) fun _ _ => rfl
    · exact h1

/-- R403, R404, R419. -/
theorem rxTurn_fetchTwin {p q : Sink} {a b : State} (h : SinkTwin p q a b) :
    FetchTwin p q (rxTurn a) (rxTurn b) := by
  have hs : b.stopsAtRead = a.stopsAtRead := h.observe State.stopsAtRead fun _ _ => rfl
  have hu : unboundedByte b = unboundedByte a := h.observe unboundedByte fun _ _ => rfl
  have hd : b.ds = a.ds := h.observe State.ds fun _ _ => rfl
  unfold rxTurn
  rw [hs, hu, hd]
  split
  · exact .done (h.update abortRecv fun _ _ => rfl)
  · split
    · exact .done h
    next x _ =>
      have h1 := h.update (rxReadInf x) fun _ _ => rfl
      exact .run _ (unlessHunting_sinkBlind (trace_sinkBlind .byteTrace (.byte x)) h1)

/-- R465. -/
theorem ackTurn_fetchTwin {p q : Sink} {a b : State} (h : SinkTwin p q a b) :
    FetchTwin p q (ackTurn a) (ackTurn b) := by
  have hr : boundedAnswer b = boundedAnswer a := h.observe boundedAnswer fun _ _ => rfl
  have hk : b.ackpos = a.ackpos := h.observe State.ackpos fun _ _ => rfl
  have h1 := h.update (rxReadBounded .tAck) fun _ _ => rfl
  unfold ackTurn
  rw [hr, hk]
  split
  · exact .done (finishTx_sinkBlind .ackTimeout h1)
  · exact .run _ h1

/-- R452, R453. -/
theorem withTxByte_fetchTwin {f : Byte → State → State} (hf : ∀ x, SinkBlind (f x)) {p q : Sink} {a b : State}
    (h : SinkTwin p q a b) : FetchTwin p q (withTxByte f a) (withTxByte f b) := by
  have ht : txByte b = txByte a := h.observe txByte fun _ _ => rfl
  unfold withTxByte
  rw [ht]
  split
  next x _ => exact .done (hf x h)
  · exact .stuck _

/-- R501: the sequencer's turn, phase by phase. -/
theorem sequencerTurn_fetchTwin {p q : Sink} {a b : State} (h : SinkTwin p q a b) :
    FetchTwin p q (sequencerTurn a) (sequencerTurn b) := by
  have hp : b.phase = a.phase := h.observe State.phase fun _ _ => rfl
  have hs : b.stopreq = a.stopreq := h.observe State.stopreq fun _ _ => rfl
  unfold sequencerTurn
  rw [hp, hs]
  cases a.phase with
  | off => exact .done h
  | idle =>
    refine .done ?_
    split
    · exact h.update stopCleanup fun _ _ => rfl
    · exact h
  | rxHunt => exact rxTurn_fetchTwin h
  | rx => exact rxTurn_fetchTwin h
  | txWrite => exact withTxByte_fetchTwin stepTxWrite_sinkBlind h
  | txEcho1 => exact withTxByte_fetchTwin stepTxEcho1_sinkBlind h
  | txEcho2 => exact .done (stepTxEcho2_sinkBlind h)
  | txBrkOn => exact .done (h.update stepTxBrkOn fun _ _ => rfl)
  | txBrkWr => exact .done (h.update stepTxBrkWr fun _ _ => rfl)
  | txBrkOff => exact .done (stepTxBrkOff_sinkBlind h)
  | txAck => exact ackTurn_fetchTwin h

/-- R13: twins have the same turn. -/
theorem fetch_fetchTwin {p q : Sink} {a b : State} (h : SinkTwin p q a b) : FetchTwin p q (fetch a) (fetch b) := by
  have ht : b.env.outsideTurns = a.env.outsideTurns := h.observe (·.env.outsideTurns) fun _ _ => rfl
  cases hn : a.env.outsideTurns with
  | zero =>
    rw [fetch_of_sequencer hn, fetch_of_sequencer (ht.trans hn)]
    exact sequencerTurn_fetchTwin (h.update State.seqTurn fun _ _ => rfl)
  | succ n =>
    rw [fetch_of_outside hn, fetch_of_outside (ht.trans hn)]
    exact outsideTurn_fetchTwin
      (h.update (fun s => { s with env := { s.env with outsideTurns := n } }) fun _ _ => rfl)

/-- What twins fetched leads to twins. -/
theorem runFetched_fetchTwin {p q : Sink} {f g : Fetched} (h : FetchTwin p q f g) {a : State}
    (ha : runFetched f = .next a) : ∃ b, runFetched g = .next b ∧ SinkTwin p q a b := by
  cases h with
  | done h1 =>
    cases ha
    exact ⟨_, rfl, h1⟩
  | run e h1 =>
    obtain ⟨i, hd, hx⟩ := exists_exec_of_runFetched_run ha
    obtain ⟨f, hf, hb⟩ := exec_sinkBlind i
    cases (hf _).symm.trans hx
    exact ⟨_, (runFetched_run hd _).trans (hf _), hb h1⟩
  | stuck r => cases ha

/-- Settles O59: the two runs start as twins, and the step leads twins to twins. -/
theorem traceEventsAreNeverReadBack : Obligations.TraceEventsAreNeverReadBack := by
  intro s t k h
  obtain ⟨b, hb, more, ht, rfl⟩ := runFetched_fetchTwin (fetch_fetchTwin (.start s k)) h
  exact ⟨more, ht, hb⟩

end Sys2Proof.Machine
end

section
/-! PROOFS. Everything the sequencer's turn can do, said once (R501), and the two outcomes of a START. -/

namespace Sys2Proof.Machine

open Sys2Proof

/-! ### The inversion of the sequencer's turn -/

/-- R403, R404: the state in which a receive symbol runs, its byte read and, outside the hunt, traced. -/
def rxFetched (b : Byte) (s : State) : State := unlessHunting (trace .byteTrace (.byte b)) (rxReadInf b s)

/-- R12, R224: the fetch of a receive symbol touches the channel and the sink only. -/
@[simp] theorem rxFetched_fields (b : Byte) (s : State) :
    (rxFetched b s).params = s.params ∧ (rxFetched b s).phase = s.phase ∧ (rxFetched b s).ds = s.ds ∧
    (rxFetched b s).rxbuf = s.rxbuf ∧ (rxFetched b s).rxlen = s.rxlen ∧ (rxFetched b s).rxovf = s.rxovf ∧
    (rxFetched b s).rxDone = s.rxDone ∧ (rxFetched b s).rxAbort = s.rxAbort ∧ (rxFetched b s).hunted = s.hunted ∧
    (rxFetched b s).txbuf = s.txbuf ∧ (rxFetched b s).txlen = s.txlen ∧ (rxFetched b s).txidx = s.txidx ∧
    (rxFetched b s).txcnt = s.txcnt ∧ (rxFetched b s).ackpos = s.ackpos ∧ (rxFetched b s).txcode = s.txcode ∧
    (rxFetched b s).txDone = s.txDone ∧ (rxFetched b s).par = s.par ∧ (rxFetched b s).brkfail = s.brkfail ∧
    (rxFetched b s).stopreq = s.stopreq ∧ (rxFetched b s).cmderr = s.cmderr ∧
    (rxFetched b s).startFail = s.startFail ∧ (rxFetched b s).logmask = s.logmask ∧
    (rxFetched b s).cntEsc = s.cntEsc ∧ (rxFetched b s).cntMark = s.cntMark ∧ (rxFetched b s).cntOvf = s.cntOvf ∧
    (rxFetched b s).cntTxTotal = s.cntTxTotal ∧ (rxFetched b s).cntTxFail = s.cntTxFail ∧
    (rxFetched b s).replies = s.replies ∧ (rxFetched b s).env = s.env ∧
    (rxFetched b s).chan = (rxReadInf b s).chan := by
  unfold rxFetched unlessHunting
  split <;> simp

/-- R501: `SequencerStep s t` says that the sequencer's turn, its inputs taken in `s`, can lead to `t`. Each
constructor is one outcome of one phase, with the conditions under which it comes. -/
inductive SequencerStep (s : State) : State → Prop where
  /-- R501, R224: there is no step, or no byte to read. -/
  | rest (hs : s.phase = .off ∨ (s.phase = .idle ∧ s.stopreq = false) ∨
      (s.phase.receives = true ∧ s.stopsAtRead = false ∧ s.chan.stream = [])) : SequencerStep s s
  /-- R504. -/
  | cleanup (hp : s.phase = .idle) (hq : s.stopreq = true) : SequencerStep s (stopCleanup s)
  /-- R419. -/
  | abort (hp : s.phase.receives = true) (hs : s.stopsAtRead = true) : SequencerStep s (abortRecv s)
  /-- R403, R410, R412: a byte that only moves the decoder, which in the hunt is every one but the break's last. -/
  | decoder (hp : s.phase.receives = true) {b : Byte} (hb : s.chan.stream.head? = some b) {d : DecState} {a : DecAction}
      (hd : decodeStep s.ds b = (d, a)) (ha : a = .none ∨ (s.phase = .rxHunt ∧ a ≠ .break)) :
      SequencerStep s { rxFetched b s with ds := d }
  /-- R403. -/
  | huntEnd (hp : s.phase = .rxHunt) {b : Byte} (hb : s.chan.stream.head? = some b)
      (hd : decodeStep s.ds b = (.normal, .break)) : SequencerStep s (endHunt { rxFetched b s with ds := .normal })
  /-- R411, R414. -/
  | appended (hp : s.phase = .rx) {b v : Byte} (hb : s.chan.stream.head? = some b)
      (hd : decodeStep s.ds b = (.normal, .append v)) : SequencerStep s { append v (rxFetched b s) with ds := .normal }
  /-- R413. -/
  | escBad (hp : s.phase = .rx) {b : Byte} (hb : s.chan.stream.head? = some b)
      (hd : decodeStep s.ds b = (.normal, .escAnomaly)) :
      SequencerStep s { escAnomaly b (rxFetched b s) with ds := .normal }
  /-- R416. -/
  | markBad (hp : s.phase = .rx) {b : Byte} (hb : s.chan.stream.head? = some b)
      (hd : decodeStep s.ds b = (.normal, .markAnomaly)) :
      SequencerStep s { markAnomaly b (rxFetched b s) with ds := .normal }
  /-- R415. -/
  | complete (hp : s.phase = .rx) {b : Byte} (hb : s.chan.stream.head? = some b)
      (hd : decodeStep s.ds b = (.normal, .break)) :
      SequencerStep s (completeTelegram { rxFetched b s with ds := .normal })
  /-- R452, answered `OK`. -/
  | written (hp : s.phase = .txWrite) (b : Byte) (hb : txByte s = some b) :
      SequencerStep s { trace .byteTrace (.byte b) (txWrite b s) with phase := .txEcho1 }
  /-- R452, answered `FAIL`. -/
  | writeFailed (hp : s.phase = .txWrite) (b : Byte) (hb : txByte s = some b) :
      SequencerStep s (finishTx .wrfail (trace .byteTrace (.byte b) (txWrite b s)))
  /-- R455. -/
  | echoedFF (hp : s.phase = .txEcho1) (hb : txByte s = some 0xFF) :
      SequencerStep s { rxReadBounded .tEcho s with phase := .txEcho2 }
  /-- R454, R456, R457. -/
  | verified (hp : s.phase = .txEcho1 ∨ s.phase = .txEcho2) : SequencerStep s (byteVerified (rxReadBounded .tEcho s))
  /-- R453, R454, R456. -/
  | echoFailed (hp : s.phase = .txEcho1 ∨ s.phase = .txEcho2) (code : TxCode)
      (hc : code ∈ [.echoTimeout, .echoMismatch, .echo2Timeout, .echo2Mismatch]) :
      SequencerStep s (finishTx code (rxReadBounded .tEcho s))
  /-- R460. -/
  | breakOn (hp : s.phase = .txBrkOn) : SequencerStep s { setParity .even s with par := .even, phase := .txBrkWr }
  /-- R461. -/
  | breakWrite (hp : s.phase = .txBrkWr) :
      SequencerStep s { txWrite 0x00 s with brkfail := decide (writeAnswer s = .fail), phase := .txBrkOff }
  /-- R462, the zero byte written. -/
  | breakOff (hp : s.phase = .txBrkOff) (hf : s.brkfail = false) :
      SequencerStep s { setParity .off s with par := .off, ackpos := 0, phase := .txAck }
  /-- R462, the zero byte refused. -/
  | breakFailed (hp : s.phase = .txBrkOff) (hf : s.brkfail = true) :
      SequencerStep s (finishTx .brkWrfail { setParity .off s with par := .off })
  /-- R465: a byte of `ACK_SEQ` but the last. -/
  | ackByte (hp : s.phase = .txAck) (hk : s.ackpos ≠ 2) :
      SequencerStep s { rxReadBounded .tAck s with ackpos := s.ackpos + 1 }
  /-- R465: the last byte of `ACK_SEQ`. -/
  | acknowledged (hp : s.phase = .txAck) (hk : s.ackpos = 2) :
      SequencerStep s (finishTx .ok { rxReadBounded .tAck s with ackpos := 3 })
  /-- R465, R466. -/
  | ackFailed (hp : s.phase = .txAck) (code : TxCode) (hc : code ∈ [.ackTimeout, .ackMismatch]) :
      SequencerStep s (finishTx code (rxReadBounded .tAck s))

/-- R304, R405: the symbol formed from a decoder state and a byte, and the transition it stands for. -/
theorem decode_rxSymbol_cases {d : DecState} {b : Byte} {i : Instr} (h : decode (.rxsym (rxSymbol d b)) = .ok i) :
    (i = .s0Esc ∧ decodeStep d b = (.sawFF, .none)) ∨
    (i = .s0Lit b ∧ decodeStep d b = (.normal, .append b)) ∨
    (i = .s1Mark ∧ decodeStep d b = (.marked, .none)) ∨
    (i = .s1Ff ∧ decodeStep d b = (.normal, .append 0xFF)) ∨
    (i = .s1Bad b ∧ decodeStep d b = (.normal, .escAnomaly)) ∨
    (i = .s2Break ∧ decodeStep d b = (.normal, .break)) ∨
    (i = .s2Bad b ∧ decodeStep d b = (.normal, .markAnomaly)) := by
  rw [decode, decodeRx_rxSymbol] at h
  unfold decodeStep
  cases d <;> dsimp only at h ⊢ <;> split_ifs at h ⊢ <;> cases h <;> simp

/-- R403: what running a symbol fetched in the hunt does. -/
theorem sequencerStep_of_hunt {s t : State} {i : Instr} {b : Byte} (hp : s.phase = .rxHunt)
    (hb : s.chan.stream.head? = some b) (hd : decode (.rxsym (rxSymbol s.ds b)) = .ok i)
    (h : exec i (rxFetched b s) = .next t) : SequencerStep s t := by
  have hr : s.phase.receives = true := by simp [hp]
  have hu (f : State → State) : unlessHunting f (rxFetched b s) = rxFetched b s :=
    unlessHunting_of_hunt f (by simp [hp])
  obtain ⟨rfl, hs⟩ | ⟨rfl, hs⟩ | ⟨rfl, hs⟩ | ⟨rfl, hs⟩ | ⟨rfl, hs⟩ | ⟨rfl, hs⟩ | ⟨rfl, hs⟩ :=
    decode_rxSymbol_cases hd <;> cases h
  case inr.inr.inr.inr.inr.inl =>
    rw [if_pos (by simp [hp])]
    exact .huntEnd hp hb hs
  case inl | inr.inr.inl => exact .decoder hr hb hs (.inl rfl)
  all_goals
    rw [hu]
    exact .decoder hr hb hs (.inr ⟨hp, nofun⟩)

/-- R404: what running a symbol fetched in RX does. -/
theorem sequencerStep_of_rx {s t : State} {i : Instr} {b : Byte} (hp : s.phase = .rx)
    (hb : s.chan.stream.head? = some b) (hd : decode (.rxsym (rxSymbol s.ds b)) = .ok i)
    (h : exec i (rxFetched b s) = .next t) : SequencerStep s t := by
  have hr : s.phase.receives = true := by simp [hp]
  have hu (f : State → State) : unlessHunting f (rxFetched b s) = f (rxFetched b s) :=
    unlessHunting_of_not_hunt f (by simp [hp])
  obtain ⟨rfl, hs⟩ | ⟨rfl, hs⟩ | ⟨rfl, hs⟩ | ⟨rfl, hs⟩ | ⟨rfl, hs⟩ | ⟨rfl, hs⟩ | ⟨rfl, hs⟩ :=
    decode_rxSymbol_cases hd <;> cases h
  · exact .decoder hr hb hs (.inl rfl)
  · rw [hu]; exact .appended hp hb hs
  · exact .decoder hr hb hs (.inl rfl)
  · rw [hu]; exact .appended hp hb hs
  · rw [hu]; exact .escBad hp hb hs
  · rw [if_neg (by simp [hp])]; exact .complete hp hb hs
  · rw [hu]; exact .markBad hp hb hs

/-- R403, R404, R419: a step in a receive phase. -/
theorem sequencerStep_of_rxTurn {s t : State} (hp : s.phase = .rxHunt ∨ s.phase = .rx)
    (h : runFetched (rxTurn s) = .next t) : SequencerStep s t := by
  have hr : s.phase.receives = true := by obtain hp | hp := hp <;> simp [hp]
  unfold rxTurn at h
  split at h
  next hs =>
    cases h
    exact .abort hr hs
  next hs =>
    split at h
    next hn =>
      cases h
      exact .rest (.inr (.inr ⟨hr, by simpa using hs, by simpa [unboundedByte] using hn⟩))
    next b hb =>
      obtain ⟨i, hd, hx⟩ := exists_exec_of_runFetched_run h
      obtain hp | hp := hp
      · exact sequencerStep_of_hunt hp hb hd hx
      · exact sequencerStep_of_rx hp hb hd hx

/-- R465: matching a byte of `ACK_SEQ`. -/
theorem sequencerStep_of_ackMatched {s : State} (hp : s.phase = .txAck) :
    SequencerStep s (ackMatched (rxReadBounded .tAck s)) := by
  obtain ⟨hk, h⟩ | ⟨hk, h⟩ := ackMatched_cases (rxReadBounded .tAck s)
  · rw [h]; exact .acknowledged hp hk
  · rw [h]; exact .ackByte hp hk

/-- R465, R466: a step in TX_ACK. -/
theorem sequencerStep_of_ackTurn {s t : State} (hp : s.phase = .txAck) (h : runFetched (ackTurn s) = .next t) :
    SequencerStep s t := by
  unfold ackTurn at h
  split at h
  · cases h
    exact .ackFailed hp _ (by decide)
  · obtain ⟨i, hd, hx⟩ := exists_exec_of_runFetched_run h
    have hi := encode_format_of_decode hd
    cases i with
    | hostRead | hostWrite | recv | xmit | start | stop | tokenAck | tokenUnknown | tokenAssign | tokenRelease
    | s0Esc | s0Lit | s1Mark | s1Ff | s1Bad | s2Break | s2Bad => simp [encode, Encoded.format] at hi
    | ackB0 | ackB1 | ackB2 => cases hx; exact sequencerStep_of_ackMatched hp
    | ackBad pos a => cases hx; exact .ackFailed hp _ (by decide)

/-- R452: a step in TX_WRITE. -/
theorem sequencerStep_of_stepTxWrite {s : State} {b : Byte} (hp : s.phase = .txWrite) (hb : txByte s = some b) :
    SequencerStep s (stepTxWrite b s) := by
  unfold stepTxWrite
  cases writeAnswer s with
  | ok => exact .written hp b hb
  | fail => exact .writeFailed hp b hb

/-- R453, R454, R455: a step in TX_ECHO1. -/
theorem sequencerStep_of_stepTxEcho1 {s : State} {b : Byte} (hp : s.phase = .txEcho1) (hb : txByte s = some b) :
    SequencerStep s (stepTxEcho1 b s) := by
  unfold stepTxEcho1
  cases boundedAnswer s with
  | timeout => exact .echoFailed (.inl hp) _ (by decide)
  | byte e =>
    dsimp only
    split_ifs with he hff
    · exact .echoFailed (.inl hp) _ (by decide)
    · exact .echoedFF hp (by rw [hb, ← not_not.1 he, hff])
    · exact .verified (.inl hp)

/-- R456: a step in TX_ECHO2. -/
theorem sequencerStep_of_stepTxEcho2 {s : State} (hp : s.phase = .txEcho2) : SequencerStep s (stepTxEcho2 s) := by
  unfold stepTxEcho2
  cases boundedAnswer s with
  | timeout => exact .echoFailed (.inr hp) _ (by decide)
  | byte e =>
    dsimp only
    split_ifs
    · exact .echoFailed (.inr hp) _ (by decide)
    · exact .verified (.inr hp)

/-- R462: a step in TX_BRK_OFF. -/
theorem sequencerStep_of_stepTxBrkOff {s : State} (hp : s.phase = .txBrkOff) : SequencerStep s (stepTxBrkOff s) := by
  unfold stepTxBrkOff
  dsimp only
  split_ifs with hf
  · exact .breakFailed hp hf
  · exact .breakOff hp (Bool.eq_false_iff.2 hf)

/-- R501: the sequencer's turn, phase by phase. -/
theorem sequencerStep_of_sequencerTurn {s t : State} (h : runFetched (sequencerTurn s) = .next t) :
    SequencerStep s t := by
  cases hp : s.phase <;> simp only [sequencerTurn, hp] at h
  case off => cases h; exact .rest (.inl hp)
  case idle =>
    cases h
    split
    next hq => exact .cleanup hp hq
    next hq => exact .rest (.inr (.inl ⟨hp, Bool.eq_false_iff.2 hq⟩))
  case rxHunt => exact sequencerStep_of_rxTurn (.inl hp) h
  case rx => exact sequencerStep_of_rxTurn (.inr hp) h
  case txWrite => obtain ⟨b, hb, rfl⟩ := withTxByte_next h; exact sequencerStep_of_stepTxWrite hp hb
  case txEcho1 => obtain ⟨b, hb, rfl⟩ := withTxByte_next h; exact sequencerStep_of_stepTxEcho1 hp hb
  case txEcho2 => cases h; exact sequencerStep_of_stepTxEcho2 hp
  case txBrkOn => cases h; exact .breakOn hp
  case txBrkWr => cases h; exact .breakWrite hp
  case txBrkOff => cases h; exact sequencerStep_of_stepTxBrkOff hp
  case txAck => exact sequencerStep_of_ackTurn hp h

/-- R501: everything a step of the sequencer can do. -/
theorem sequencerStep_of_step {s t : State} (h0 : s.env.outsideTurns = 0) (h : step s = .next t) :
    SequencerStep s.seqTurn t :=
  sequencerStep_of_sequencerTurn (by rw [← step_of_sequencer h0, h])

/-! ### START, by the answer to its `Open()` -/

/-- R500: a START whose `Open()` is answered `OK`. -/
theorem acceptedStart_of_ok {s : State} (h : openAnswer s = .ok) :
    acceptedStart s = startFields { s with
      cmderr := false, env := useOpen s.env,
      chan := { s.chan with isOpen := true, parity := .off, calls := s.chan.calls ++ [.openPort .ok] } } := by
  have h' : openAnswer { s with cmderr := false } = .ok := h
  simp only [acceptedStart, h, openPort_of_ok h']

/-- R500: a START whose `Open()` is answered `FAIL`. -/
theorem acceptedStart_of_fail {s : State} (h : openAnswer s = .fail) :
    acceptedStart s = { s with
      cmderr := false, startFail := true, env := useOpen s.env,
      chan := { s.chan with calls := s.chan.calls ++ [.openPort .fail] } } := by
  have h' : openAnswer { s with cmderr := false } = .fail := h
  simp only [acceptedStart, h, openPort_of_fail h']

end Sys2Proof.Machine
end

section
/-! PROOFS. The invariant: its three parts under frames of the operations, each outcome of a turn, and the step. -/

namespace Sys2Proof.Machine

open Sys2Proof

/-! ### The receive part -/

/-- R112, R113: RXLEN is at most 32, and 32 where RXOVF is set. -/
def State.rxFits (s : State) : Prop := s.rxlen.toNat ≤ 32 ∧ (s.rxovf = true → s.rxlen.toNat = 32)

theorem State.RecvInv.rxFits {s : State} (h : s.RecvInv) : s.rxFits := ⟨h.rxlen_le, h.ovf_full⟩

theorem State.rxFits.of_eq {s t : State} (h : s.rxFits) (e : t.rxlen = s.rxlen ∧ t.rxovf = s.rxovf) : t.rxFits := by
  simpa only [State.rxFits, e] using h

/-- R417: an append keeps RXLEN within the buffer, and sets RXOVF only where the buffer is full. -/
theorem State.rxFits.append {s : State} (h : s.rxFits) (v : Byte) : (append v s).rxFits := by
  obtain ⟨hl, ho⟩ := h
  by_cases hroom : s.rxlen.toNat < 32
  · have hov : s.rxovf = false := by
      by_contra hc
      have := ho (by simpa using hc)
      omega
    rw [append_of_room v hroom]
    exact ⟨by bv_omega, by simp [hov]⟩
  · have hfull : s.rxlen.toNat = 32 := by omega
    cases hov : s.rxovf with
    | false => simp [append_of_overflow v hfull.ge hov, State.rxFits, hfull]
    | true => simp [append_of_full v hfull.ge hov, State.rxFits, hfull]

/-- Where no RECV runs, what the receive part says is this. -/
theorem State.RecvInv.of_ended {t : State} (ht : t.phase.receives = false) (hf : t.rxFits) (hd : t.ds = .normal) :
    t.RecvInv := by
  obtain ⟨hl, ho⟩ := hf
  constructor
  case rxlen_le => exact hl
  case ovf_full => exact ho
  case not_done => simp [ht]
  case ds_normal => exact fun _ => hd
  case hunting => intro hp; simp [hp] at ht

/-- Outside a RECV the receive part is about RXLEN, RXOVF and DS only. -/
theorem State.RecvInv.of_not_receiving {s t : State} (h : s.RecvInv) (hs : s.phase.receives = false)
    (ht : t.phase.receives = false) (e : t.rxlen = s.rxlen ∧ t.rxovf = s.rxovf ∧ t.ds = s.ds) : t.RecvInv :=
  .of_ended ht (h.rxFits.of_eq ⟨e.1, e.2.1⟩) (e.2.2.trans (h.ds_normal hs))

/-- While a RECV goes on, the receive part is kept by what moves the decoder and appends. -/
theorem State.RecvInv.of_receiving {s t : State} (h : s.RecvInv) (hs : s.phase.receives = true)
    (ht : t.phase.receives = true) (hf : t.rxFits) (e : t.rxDone = s.rxDone ∧ t.rxAbort = s.rxAbort)
    (hh : t.phase = .rxHunt → s.phase = .rxHunt ∧ t.params = s.params ∧ t.hunted = s.hunted) : t.RecvInv := by
  obtain ⟨hl, ho⟩ := hf
  constructor
  case rxlen_le => exact hl
  case ovf_full => exact ho
  case not_done => simpa only [e] using fun _ => h.not_done hs
  case ds_normal => simp [ht]
  case hunting =>
    intro hp
    obtain ⟨hsp, ep, eh⟩ := hh hp
    simpa only [ep, eh] using h.hunting hsp

/-! ### The transmit part -/

/-- Where no XMIT runs, what the transmit part says is this. -/
theorem State.XmitInv.of_ended {t : State} (ht : t.txBusy = false) (hc : t.txcnt = t.txidx) (hi : t.txidx.toNat ≤ 32)
    (hb : t.txcode ≠ .busycode) (hn : t.txcode = .noneYet → t.txcnt = 0) : t.XmitInv := by
  have hphase : t.phase.txBusy = false := ht
  constructor
  case cnt_eq_idx => exact hc
  case idx_le => exact hi
  case code_busy => simp [ht, hb]
  case none_zero => exact hn
  case idx_lt => intro hp; revert hphase hp; cases t.phase <;> simp
  case second_ff => intro hp; simp [hp] at hphase
  case ack_lt => intro hp; simp [hp] at hphase
  case len_ok | all_sent | not_done | no_brkfail => simp [ht]

/-- Outside an XMIT the transmit part is about TXCNT, TXIDX and TXCODE only. -/
theorem State.XmitInv.of_not_busy {s t : State} (h : s.XmitInv) (hs : s.txBusy = false) (ht : t.txBusy = false)
    (e : t.txcnt = s.txcnt ∧ t.txidx = s.txidx ∧ t.txcode = s.txcode) : t.XmitInv := by
  obtain ⟨ec, ei, ek⟩ := e
  refine .of_ended ht (by rw [ec, ei]; exact h.cnt_eq_idx) (by rw [ei]; exact h.idx_le) ?_
    (by rw [ec, ek]; exact h.none_zero)
  rw [ek, ne_eq, h.code_busy, hs]
  exact Bool.false_ne_true

/-- While an XMIT goes on, what the transmit part says is this. -/
theorem State.XmitInv.of_busy {s t : State} (h : s.XmitInv) (hs : s.phase.txBusy = true) (ht : t.phase.txBusy = true)
    (e : t.txlen = s.txlen ∧ t.txcode = s.txcode ∧ t.txDone = s.txDone) (hc : t.txcnt = t.txidx)
    (hlt : t.phase.sendsData = true → t.txidx.toNat < t.txlen.toNat)
    (hall : t.phase.sendsData = false → t.txidx = t.txlen)
    (h2 : t.phase = .txEcho2 → txByte t = some 0xFF) (ha : t.phase = .txAck → t.ackpos.toNat < 3)
    (hb : t.phase ≠ .txBrkOff → t.brkfail = false) : t.XmitInv := by
  obtain ⟨el, ek, ed⟩ := e
  have hlen : 1 ≤ t.txlen.toNat ∧ t.txlen.toNat ≤ 32 := by rw [el]; exact h.len_ok hs
  have hcode : t.txcode = .busycode := ek.trans (h.code_busy.2 hs)
  constructor
  case cnt_eq_idx => exact hc
  case idx_le =>
    cases hd : t.phase.sendsData with
    | true => exact (hlt hd).le.trans hlen.2
    | false => rw [hall hd]; exact hlen.2
  case len_ok => exact fun _ => hlen
  case idx_lt => exact hlt
  case all_sent => exact fun _ => hall
  case second_ff => exact h2
  case code_busy => simp [hcode, State.txBusy, ht]
  case not_done => exact fun _ => ed.trans (h.not_done hs)
  case ack_lt => exact ha
  case no_brkfail => exact fun _ => hb
  case none_zero => simp [hcode]

/-! ### The part on the transport and on control -/

/-- R127: PAR is off outside the phases of break generation. -/
theorem State.ChanInv.par_off {s : State} (h : s.ChanInv) (hs : s.phase ≠ .txBrkWr ∧ s.phase ≠ .txBrkOff) :
    s.par = .off := by
  cases hp : s.par with
  | off => rfl
  | even =>
    obtain hw | ho := h.par_even.1 hp
    · exact absurd hw hs.1
    · exact absurd ho hs.2

/-- While RUN stays 1 the transport stays open, and only the parity needs an argument. -/
theorem State.ChanInv.of_running {s t : State} (h : s.ChanInv) (hs : s.phase ≠ .off) (ht : t.phase ≠ .off)
    (ho : t.chan.isOpen = s.chan.isOpen) (hc : t.chan.parity = t.par)
    (hp : t.par = .even ↔ t.phase = .txBrkWr ∨ t.phase = .txBrkOff) : t.ChanInv := by
  have hr : t.run = true := by simpa [State.run] using ht
  constructor
  case par_even => exact hp
  case chan_parity => exact hc
  case chan_open => rw [ho, h.chan_open, hr]; simpa [State.run] using hs
  case stop_run => exact fun _ => hr

/-- The phases in which RUN is 1 and PAR is 0. -/
def Phase.parityOff (p : Phase) : Prop := p ≠ .off ∧ p ≠ .txBrkWr ∧ p ≠ .txBrkOff

/-- While RUN stays 1 and the parity stays off. -/
theorem State.ChanInv.of_parityOff {s t : State} (h : s.ChanInv) (hs : s.phase.parityOff) (ht : t.phase.parityOff)
    (e : t.par = s.par ∧ t.chan.isOpen = s.chan.isOpen ∧ t.chan.parity = s.chan.parity) : t.ChanInv := by
  obtain ⟨ep, eo, ec⟩ := e
  obtain ⟨hs0, hs1⟩ := hs
  obtain ⟨ht0, ht1, ht2⟩ := ht
  refine h.of_running hs0 ht0 eo (by rw [ec, ep]; exact h.chan_parity) ?_
  simp [ep, h.par_off hs1, ht1, ht2]

/-! ### The operations of the host's turn -/

/-- R402: the start of a RECV. -/
theorem startRecv_inv {s : State} (h : s.Inv) (ha : s.acceptsRecv = true) : (startRecv s).Inv := by
  have hp : s.phase = .idle := by simp_all [State.acceptsRecv]
  have hq : (startRecv s).phase = if s.mustHunt then .rxHunt else .rx := rfl
  refine ⟨?_, h.xmit.of_not_busy ?_ ?_ (by simp), h.chan.of_parityOff ?_ ?_ (by simp)⟩
  · constructor
    case hunting => cases hm : s.mustHunt <;> simp_all [State.mustHunt]
    case ds_normal => simp
    all_goals simp [Config.maxLen]
  · simp [State.txBusy, hp]
  · rw [State.txBusy, hq]
    split <;> simp
  · simp [Phase.parityOff, hp]
  · rw [hq]
    split <;> simp [Phase.parityOff]

/-- R451: the start of an XMIT. -/
theorem startXmit_inv {s : State} (h : s.Inv) (ha : s.acceptsXmit = true) : (startXmit s).Inv := by
  simp only [State.acceptsXmit, Bool.and_eq_true, decide_eq_true_eq] at ha
  obtain ⟨⟨⟨hp, _⟩, h1⟩, h2⟩ := ha
  refine ⟨h.recv.of_not_receiving (by simp [hp]) (by simp) (by simp), ?_, h.chan.of_parityOff ?_ ?_ (by simp)⟩
  · constructor
    case idx_lt => exact fun _ => h1
    case len_ok => exact fun _ => ⟨h1, h2⟩
    all_goals simp [State.txBusy]
  · simp [Phase.parityOff, hp]
  · simp [Phase.parityOff]

/-- R500: a START, whichever way its `Open()` is answered. -/
theorem acceptedStart_inv {s : State} (h : s.Inv) (ha : s.acceptsStart = true) : (acceptedStart s).Inv := by
  have hp : s.phase = .off := by simpa [State.acceptsStart] using ha
  have hpar : s.par = .off := h.chan.par_off (by simp [hp])
  cases ho : openAnswer s with
  | fail =>
    rw [acceptedStart_of_fail ho]
    exact h.of_eq (by simp)
  | ok =>
    rw [acceptedStart_of_ok ho]
    refine ⟨.of_ended (by simp) (by simp [State.rxFits]) (by simp),
      .of_ended (by simp [State.txBusy]) (by simp) (by simp) (by simp) (by simp), ?_⟩
    constructor <;> simp [State.run, hpar]

/-- R503: a stop request while RUN is 1. -/
theorem stopRequest_inv {s : State} (h : s.Inv) (ha : s.acceptsStop = true) :
    State.Inv { s with cmderr := false, stopreq := true } where
  recv := { h.recv with }
  xmit := { h.xmit with }
  chan := { h.chan with stop_run := fun _ => ha }

/-- R711: outside an XMIT the telegram to send and its length are the host's to write. -/
theorem writeTelegram_inv {s : State} (h : s.Inv) (hb : s.txBusy = false) (buf : Vector Byte 32) (len : BitVec 6) :
    State.Inv { s with txbuf := buf, txlen := len } where
  recv := { h.recv with }
  xmit := h.xmit.of_not_busy hb hb ⟨rfl, rfl, rfl⟩
  chan := { h.chan with }

/-- R502, R505, R511, R512: every write of the host keeps the invariant. -/
theorem writeReg_inv {s : State} (h : s.Inv) (idx : BitVec 8) (v : Reg) : (writeReg idx v s).Inv := by
  obtain e | ⟨hb, i, e⟩ | ⟨hb, e⟩ | e | ⟨ha, e⟩ | ⟨ha, e⟩ | ⟨ha, e⟩ | ⟨ha, e⟩ := writeReg_cases idx v s <;> rw [e]
  · exact h.of_eq (by simp)
  · exact writeTelegram_inv h hb _ s.txlen
  · exact writeTelegram_inv h hb s.txbuf _
  · exact h.of_eq (by simp)
  · exact startRecv_inv h ha
  · exact startXmit_inv h ha
  · exact acceptedStart_inv h ha
  · exact stopRequest_inv h ha

/-- R13: a turn of the outside keeps the invariant. -/
theorem outside_step_inv {s t : State} {n : Nat} (h : s.Inv) (hn : s.env.outsideTurns = n + 1)
    (hst : step s = .next t) : t.Inv := by
  obtain ⟨e, _, hs | ⟨b, hs⟩ | ⟨r, hs⟩ | ⟨idx, v, hs⟩⟩ := step_of_outside_cases hn <;> rw [hst] at hs <;> cases hs
  · exact h.of_eq (by simp)
  · exact h.of_eq (by simp)
  · exact h.of_eq (by simp)
  · exact writeReg_inv (h.of_eq (by simp)) idx v

/-! ### The outcomes of the sequencer's turn -/

/-- A step in a receive phase that ends the RECV or goes on with it leaves the other two parts. -/
theorem State.Inv.of_recvInv {s t : State} (h : s.Inv) (hs : s.phase.receives = true)
    (ht : t.phase.receives = true ∨ t.phase = .idle)
    (e : t.txcnt = s.txcnt ∧ t.txidx = s.txidx ∧ t.txcode = s.txcode ∧ t.par = s.par ∧
      t.chan.isOpen = s.chan.isOpen ∧ t.chan.parity = s.chan.parity) (hr : t.RecvInv) : t.Inv := by
  have quiet (p : Phase) (hp : p.receives = true ∨ p = .idle) : p.txBusy = false ∧ p.parityOff := by
    unfold Phase.parityOff
    revert hp
    cases p <;> simp
  obtain ⟨ec, ei, ek, epar, eo, ecp⟩ := e
  obtain ⟨hsb, hsp⟩ := quiet _ (.inl hs)
  obtain ⟨htb, htp⟩ := quiet _ ht
  exact ⟨hr, h.xmit.of_not_busy hsb htb ⟨ec, ei, ek⟩, h.chan.of_parityOff hsp htp ⟨epar, eo, ecp⟩⟩

/-- A step of a RECV that goes on. -/
theorem State.Inv.of_receiving {s t : State} (h : s.Inv) (hs : s.phase.receives = true) (ht : t.phase.receives = true)
    (hf : t.rxFits)
    (e : t.txcnt = s.txcnt ∧ t.txidx = s.txidx ∧ t.txcode = s.txcode ∧ t.par = s.par ∧
      t.chan.isOpen = s.chan.isOpen ∧ t.chan.parity = s.chan.parity)
    (ef : t.rxDone = s.rxDone ∧ t.rxAbort = s.rxAbort)
    (hh : t.phase = .rxHunt → s.phase = .rxHunt ∧ t.params = s.params ∧ t.hunted = s.hunted) : t.Inv :=
  h.of_recvInv hs (.inl ht) e (h.recv.of_receiving hs ht hf ef hh)

/-- A step that ends a RECV. -/
theorem State.Inv.of_recvEnded {s t : State} (h : s.Inv) (hs : s.phase.receives = true) (ht : t.phase = .idle)
    (hd : t.ds = .normal) (hf : t.rxFits)
    (e : t.txcnt = s.txcnt ∧ t.txidx = s.txidx ∧ t.txcode = s.txcode ∧ t.par = s.par ∧
      t.chan.isOpen = s.chan.isOpen ∧ t.chan.parity = s.chan.parity) : t.Inv :=
  h.of_recvInv hs (.inr ht) e (.of_ended (by simp [ht]) hf hd)

/-- A step of an XMIT that goes on with it leaves the receive part, and the transport open. -/
theorem State.Inv.of_xmitInv {s t : State} (h : s.Inv) (hs : s.phase.txBusy = true) (ht : t.phase.txBusy = true)
    (e : t.rxlen = s.rxlen ∧ t.rxovf = s.rxovf ∧ t.ds = s.ds ∧ t.chan.isOpen = s.chan.isOpen) (hx : t.XmitInv)
    (hc : t.chan.parity = t.par) (hp : t.par = .even ↔ t.phase = .txBrkWr ∨ t.phase = .txBrkOff) : t.Inv := by
  have busy (p : Phase) (hp : p.txBusy = true) : p.receives = false ∧ p ≠ .off := by
    revert hp
    cases p <;> simp
  obtain ⟨el, eo, ed, ech⟩ := e
  obtain ⟨hsr, hs0⟩ := busy _ hs
  obtain ⟨htr, ht0⟩ := busy _ ht
  exact ⟨h.recv.of_not_receiving hsr htr ⟨el, eo, ed⟩, hx, h.chan.of_running hs0 ht0 ech hc hp⟩

/-- A move between two phases of an XMIT that stays at its place in the telegram. -/
theorem State.Inv.of_move {s t : State} (h : s.Inv) (hs : s.phase.txBusy = true) (ht : t.phase.txBusy = true)
    (hd : t.phase.sendsData = s.phase.sendsData)
    (e : t.rxlen = s.rxlen ∧ t.rxovf = s.rxovf ∧ t.ds = s.ds ∧ t.chan.isOpen = s.chan.isOpen ∧ t.txlen = s.txlen ∧
      t.txcode = s.txcode ∧ t.txDone = s.txDone ∧ t.txcnt = s.txcnt ∧ t.txidx = s.txidx)
    (h2 : t.phase = .txEcho2 → txByte t = some 0xFF) (ha : t.phase = .txAck → t.ackpos.toNat < 3)
    (hb : t.phase ≠ .txBrkOff → t.brkfail = false) (hc : t.chan.parity = t.par)
    (hp : t.par = .even ↔ t.phase = .txBrkWr ∨ t.phase = .txBrkOff) : t.Inv := by
  obtain ⟨el, eo, ed, ech, etl, ek, edone, ec, ei⟩ := e
  refine h.of_xmitInv hs ht ⟨el, eo, ed, ech⟩ ?_ hc hp
  refine h.xmit.of_busy hs ht ⟨etl, ek, edone⟩ (by rw [ec, ei]; exact h.xmit.cnt_eq_idx) ?_ ?_ h2 ha hb
  · rw [hd, ei, etl]
    exact h.xmit.idx_lt
  · rw [hd, ei, etl]
    exact h.xmit.all_sent hs

/-- R457: one more byte is verified. -/
theorem byteVerified_inv {s : State} (h : s.Inv) (hp : s.phase = .txEcho1 ∨ s.phase = .txEcho2) :
    (byteVerified s).Inv := by
  have hb : s.phase.txBusy = true := by obtain hp | hp := hp <;> simp [hp]
  have hlt := h.xmit.idx_lt (by obtain hp | hp := hp <;> simp [hp])
  have hlen : s.txlen.toNat ≤ 32 := (h.xmit.len_ok hb).2
  have hcnt : (byteVerified s).txcnt = (byteVerified s).txidx := by simp [h.xmit.cnt_eq_idx]
  have hbrk : s.brkfail = false := h.xmit.no_brkfail hb (by obtain hp | hp := hp <;> simp [hp])
  have hpar : s.par = .off := h.chan.par_off (by obtain hp | hp := hp <;> simp [hp])
  have hchan : s.chan.parity = .off := h.chan.chan_parity.trans hpar
  by_cases hmore : (s.txidx + 1).toNat < s.txlen.toNat
  · have hq : (byteVerified s).phase = .txWrite := if_pos hmore
    refine h.of_xmitInv hb (by simp [hq]) (by simp) ?_ (by simp [hpar, hchan]) (by simp [hpar, hq])
    exact h.xmit.of_busy hb (by simp [hq]) (by simp) hcnt (fun _ => hmore) (by simp [hq]) (by simp [hq]) (by simp [hq])
      (by simp [hbrk])
  · have hq : (byteVerified s).phase = .txBrkOn := if_neg hmore
    have hall : s.txidx + 1 = s.txlen := by bv_omega
    refine h.of_xmitInv hb (by simp [hq]) (by simp) ?_ (by simp [hpar, hchan]) (by simp [hpar, hq])
    exact h.xmit.of_busy hb (by simp [hq]) (by simp) hcnt (by simp [hq]) (fun _ => hall) (by simp [hq]) (by simp [hq])
      (by simp [hbrk])

/-- R470: the end of an XMIT, whose parity is restored. -/
theorem finishTx_inv {s r : State} {code : TxCode} (h : s.Inv) (hs : s.phase.txBusy = true)
    (e : r.rxlen = s.rxlen ∧ r.rxovf = s.rxovf ∧ r.ds = s.ds ∧ r.txcnt = s.txcnt ∧ r.txidx = s.txidx ∧
      r.chan.isOpen = s.chan.isOpen)
    (hpar : r.par = .off) (hchan : r.chan.parity = .off) (hcode : code ≠ .busycode) (hnone : code ≠ .noneYet) :
    (finishTx code r).Inv := by
  have hp : s.phase.receives = false ∧ s.phase ≠ .off := by
    revert hs
    cases s.phase <;> simp
  obtain ⟨el, eo, ed, ec, ei, ech⟩ := e
  have hcnt : r.txcnt = r.txidx := by rw [ec, ei, h.xmit.cnt_eq_idx]
  have hidx : r.txidx.toNat ≤ 32 := by rw [ei]; exact h.xmit.idx_le
  exact ⟨h.recv.of_not_receiving hp.1 (by simp) (by simp [el, eo, ed]),
    .of_ended (by simp [State.txBusy]) (by simpa) (by simpa) (by simpa) (by simp [hnone]),
    h.chan.of_running hp.2 (by simp) (by simpa) (by simp [hpar, hchan]) (by simp [hpar])⟩

/-- R501: the invariant holds after every outcome of the sequencer's turn. -/
theorem SequencerStep.inv {s t : State} (h : s.Inv) (hst : SequencerStep s t) : t.Inv := by
  have hf := h.recv.rxFits
  have hchan := h.chan.chan_parity
  cases hst with
  | rest => exact h
  | cleanup hp =>
    have hpar := h.chan.par_off (by simp [hp])
    refine ⟨h.recv.of_not_receiving (by simp [hp]) (by simp) (by simp),
      h.xmit.of_not_busy (by simp [State.txBusy, hp]) (by simp [State.txBusy]) (by simp), ?_⟩
    constructor <;> simp [State.run, hpar, hchan]
  | abort hp => exact h.of_recvEnded hp (by simp) (by simp) (hf.of_eq (by simp)) (by simp)
  | complete hp => exact h.of_recvEnded (by simp [hp]) (by simp) (by simp) (hf.of_eq (by simp)) (by simp)
  | decoder hp => exact h.of_receiving hp (by simpa) (hf.of_eq (by simp)) (by simp) (by simp) (by simp)
  | huntEnd hp | escBad hp | markBad hp =>
    exact h.of_receiving (by simp [hp]) (by simp [hp]) (hf.of_eq (by simp)) (by simp) (by simp) (by simp)
  | @appended hp b v =>
    have hf' : (append v (rxFetched b s)).rxFits := State.rxFits.append (hf.of_eq (by simp)) v
    exact h.of_receiving (by simp [hp]) (by simp [hp]) hf' (by simp) (by simp) (by simp [hp])
  | written hp =>
    have hs : s.phase.txBusy = true := by simp [hp]
    have hpar := h.chan.par_off (by simp [hp])
    have hbrk := h.xmit.no_brkfail hs (by simp [hp])
    exact h.of_move hs (by simp) (by simp [hp]) (by simp) (by simp) (by simp) (by simp [hbrk]) (by simp [hchan])
      (by simp [hpar])
  | echoedFF hp hb =>
    have hs : s.phase.txBusy = true := by simp [hp]
    have hpar := h.chan.par_off (by simp [hp])
    have hbrk := h.xmit.no_brkfail hs (by simp [hp])
    exact h.of_move hs (by simp) (by simp [hp]) (by simp) (by simpa [txByte] using hb) (by simp) (by simp [hbrk])
      (by simp [hchan]) (by simp [hpar])
  | verified hp => exact byteVerified_inv (h.of_eq (by simp)) (by simpa)
  | breakOn hp =>
    have hs : s.phase.txBusy = true := by simp [hp]
    have hbrk := h.xmit.no_brkfail hs (by simp [hp])
    exact h.of_move hs (by simp) (by simp [hp]) (by simp) (by simp) (by simp) (by simp [hbrk]) (by simp) (by simp)
  | breakWrite hp =>
    have hpar : s.par = .even := h.chan.par_even.2 (.inl hp)
    exact h.of_move (by simp [hp]) (by simp) (by simp [hp]) (by simp) (by simp) (by simp) (by simp) (by simp [hchan])
      (by simp [hpar])
  | breakOff hp hbrk =>
    exact h.of_move (by simp [hp]) (by simp) (by simp [hp]) (by simp) (by simp) (by simp) (by simp [hbrk]) (by simp)
      (by simp)
  | ackByte hp hk =>
    have hs : s.phase.txBusy = true := by simp [hp]
    have hpar := h.chan.par_off (by simp [hp])
    have hbrk := h.xmit.no_brkfail hs (by simp [hp])
    have hack : (s.ackpos + 1).toNat < 3 := by
      have := h.xmit.ack_lt hp
      bv_omega
    exact h.of_move hs (by simpa) (by simp) (by simp) (by simp [hp]) (fun _ => hack) (by simp [hbrk]) (by simp [hchan])
      (by simp [hpar, hp])
  | writeFailed hp | acknowledged hp =>
    have hpar := h.chan.par_off (by simp [hp])
    exact finishTx_inv h (by simp [hp]) (by simp) (by simpa) (by simp [hchan, hpar]) nofun nofun
  | breakFailed hp => exact finishTx_inv h (by simp [hp]) (by simp) rfl rfl nofun nofun
  | echoFailed hp code hc =>
    have hs : s.phase.txBusy = true := by obtain hp | hp := hp <;> simp [hp]
    have hpar := h.chan.par_off (by obtain hp | hp := hp <;> simp [hp])
    exact finishTx_inv h hs (by simp) (by simpa) (by simp [hchan, hpar]) (by rintro rfl; simp at hc)
      (by rintro rfl; simp at hc)
  | ackFailed hp code hc =>
    have hpar := h.chan.par_off (by simp [hp])
    exact finishTx_inv h (by simp [hp]) (by simp) (by simpa) (by simp [hchan, hpar]) (by rintro rfl; simp at hc)
      (by rintro rfl; simp at hc)

/-- Settles O7: by whose turn the step is. -/
theorem stepKeepsTheInvariant : Obligations.StepKeepsTheInvariant := by
  intro s t h hst
  by_cases h0 : s.env.outsideTurns = 0
  · exact (sequencerStep_of_step h0 hst).inv (h.of_eq (by simp))
  · obtain ⟨n, hn⟩ := Nat.exists_eq_succ_of_ne_zero h0
    exact outside_step_inv h hn hst

end Sys2Proof.Machine
end

section
/-! PROOFS. What the steps do to PHASE, to RXBUF and to the host's fields. -/

namespace Sys2Proof.Machine

open Sys2Proof

/-! ### PHASE -/

/-- R101: the changes of PHASE that the rules give. -/
def phaseMoves : List (Phase × Phase) :=
  [(.off, .idle), (.idle, .off), (.idle, .rx), (.idle, .rxHunt), (.idle, .txWrite), (.rxHunt, .rx),
    (.rxHunt, .idle), (.rx, .idle), (.txWrite, .txEcho1), (.txWrite, .idle), (.txEcho1, .txEcho2),
    (.txEcho1, .txWrite), (.txEcho1, .txBrkOn), (.txEcho1, .idle), (.txEcho2, .txWrite), (.txEcho2, .txBrkOn),
    (.txEcho2, .idle), (.txBrkOn, .txBrkWr), (.txBrkWr, .txBrkOff), (.txBrkOff, .txAck), (.txBrkOff, .idle),
    (.txAck, .idle)]

/-- From `s` to `t` PHASE stays, or changes as the rules have it. -/
def PhaseFollows (s t : State) : Prop := t.phase = s.phase ∨ (s.phase, t.phase) ∈ phaseMoves

/-- A change of PHASE from a known phase. -/
theorem PhaseFollows.of_eq {s t : State} {p : Phase} (hs : s.phase = p) (h : (p, t.phase) ∈ phaseMoves) :
    PhaseFollows s t := .inr (by rwa [hs])

/-- R500: a START leaves OFF for IDLE, or stays. -/
theorem acceptedStart_phase {s : State} (hp : s.phase = .off) : PhaseFollows s (acceptedStart s) := by
  cases ho : openAnswer s with
  | ok =>
    rw [acceptedStart_of_ok ho]
    exact .of_eq hp (by simp [phaseMoves])
  | fail =>
    rw [acceptedStart_of_fail ho]
    exact .inl rfl

/-- R402: a RECV leaves IDLE for RX, or for the hunt. -/
theorem startRecv_phase {s : State} (hp : s.phase = .idle) : PhaseFollows s (startRecv s) := by
  have hq : (startRecv s).phase = if s.mustHunt then .rxHunt else .rx := rfl
  refine .of_eq hp ?_
  rw [hq]
  split <;> decide

/-- R402, R451, R500: of the host's writes only accepted commands change PHASE. -/
theorem writeReg_phase (idx : BitVec 8) (v : Reg) (s : State) : PhaseFollows s (writeReg idx v s) := by
  obtain h | ⟨_, _, h⟩ | ⟨_, h⟩ | h | ⟨ha, h⟩ | ⟨ha, h⟩ | ⟨ha, h⟩ | ⟨_, h⟩ := writeReg_cases idx v s <;> rw [h]
  case inr.inr.inr.inr.inl => exact startRecv_phase (by simp_all [State.acceptsRecv])
  case inr.inr.inr.inr.inr.inl =>
    have hp : s.phase = .idle := by simp_all [State.acceptsXmit]
    exact .of_eq hp (by simp [phaseMoves])
  case inr.inr.inr.inr.inr.inr.inl => exact acceptedStart_phase (by simpa [State.acceptsStart] using ha)
  all_goals exact .inl (by simp)

/-- R13: a turn of the outside changes PHASE by a command only. -/
theorem outside_step_phase {s t : State} {n : Nat} (hn : s.env.outsideTurns = n + 1) (h : step s = .next t) :
    PhaseFollows s t := by
  obtain ⟨e, _, hs | ⟨b, hs⟩ | ⟨r, hs⟩ | ⟨idx, v, hs⟩⟩ := step_of_outside_cases hn <;> rw [h] at hs <;> cases hs
  · exact .inl rfl
  · exact .inl rfl
  · exact .inl rfl
  · exact writeReg_phase idx v { s with env := e }

/-- R457: after a verified byte the next is written, or the break begins. -/
theorem byteVerified_phase {s : State} (hp : s.phase = .txEcho1 ∨ s.phase = .txEcho2) :
    PhaseFollows s (byteVerified s) := by
  have hq : (byteVerified s).phase = if (s.txidx + 1).toNat < s.txlen.toNat then .txWrite else .txBrkOn := rfl
  obtain hp | hp := hp <;>
  · refine .of_eq hp ?_
    rw [hq]
    split <;> decide

/-- R501: where the outcomes of the sequencer's turn lead. -/
theorem SequencerStep.phaseFollows {s t : State} (h : SequencerStep s t) : PhaseFollows s t := by
  cases h with
  | rest => exact .inl rfl
  | decoder | appended | escBad | markBad | ackByte => exact .inl (by simp)
  | abort hp =>
    refine .inr ?_
    revert hp
    cases s.phase <;> simp [phaseMoves]
  | verified hp => exact byteVerified_phase (s := rxReadBounded .tEcho s) (by simpa)
  | echoFailed hp => obtain hp | hp := hp <;> exact .of_eq hp (by simp [phaseMoves])
  | cleanup hp | huntEnd hp | complete hp | written hp | writeFailed hp | echoedFF hp | breakOn hp | breakWrite hp
  | breakOff hp | breakFailed hp | acknowledged hp | ackFailed hp => exact .of_eq hp (by simp [phaseMoves])

/-- Settles O56: the outside's moves are those of accepted commands, the sequencer's those of its outcomes. -/
theorem phasesFollowTheirRules : Obligations.PhasesFollowTheirRules := by
  intro s t h hne
  have hfollows : PhaseFollows s t := by
    cases hn : s.env.outsideTurns with
    | zero => exact (sequencerStep_of_step hn h).phaseFollows
    | succ n => exact outside_step_phase hn h
  exact hfollows.resolve_left hne

/-! ### RXBUF -/

/-- R500, N5: a START leaves RXBUF. -/
@[simp] theorem acceptedStart_rxbuf (s : State) : (acceptedStart s).rxbuf = s.rxbuf := by
  cases ho : openAnswer s with
  | ok => simp [acceptedStart_of_ok ho]
  | fail => simp [acceptedStart_of_fail ho]

/-- R202: no write of the host touches RXBUF. -/
theorem writeReg_rxbuf (idx : BitVec 8) (v : Reg) (s : State) : (writeReg idx v s).rxbuf = s.rxbuf := by
  obtain h | ⟨_, _, h⟩ | ⟨_, h⟩ | h | ⟨_, h⟩ | ⟨_, h⟩ | ⟨_, h⟩ | ⟨_, h⟩ :=
    writeReg_cases idx v s <;> simp [h]

/-- R202: a turn of the outside leaves RXBUF. -/
theorem outside_step_rxbuf {s t : State} {n : Nat} (hn : s.env.outsideTurns = n + 1) (h : step s = .next t) :
    t.rxbuf = s.rxbuf := by
  obtain ⟨e, _, hs | ⟨b, hs⟩ | ⟨r, hs⟩ | ⟨idx, v, hs⟩⟩ := step_of_outside_cases hn <;> rw [h] at hs <;> cases hs
  · rfl
  · simp
  · simp
  · exact writeReg_rxbuf idx v _

/-- R417: an append that changes a byte had RXLEN name it, and RXLEN moves on. -/
theorem append_rxbuf_ne {v : Byte} {s : State} {j : Fin 32} (h : (append v s).rxbuf[j] ≠ s.rxbuf[j]) :
    s.rxlen.toNat = j ∧ (append v s).rxlen = s.rxlen + 1 := by
  by_cases hroom : s.rxlen.toNat < 32
  · rw [append_of_room v hroom] at h ⊢
    refine ⟨?_, rfl⟩
    by_contra hj
    exact h (Vector.getElem_setIfInBounds_ne j.isLt hj)
  · refine absurd ?_ h
    cases hov : s.rxovf with
    | false => simp [append_of_overflow v (Nat.not_lt.1 hroom) hov]
    | true => simp [append_of_full v (Nat.not_lt.1 hroom) hov]

/-- Settles O37: of everything a turn can do, only the append changes RXBUF. -/
theorem onlyAppendWritesRxbuf : Obligations.OnlyAppendWritesRxbuf := by
  intro s t j h hne
  cases hn : s.env.outsideTurns with
  | succ n => exact absurd (by rw [outside_step_rxbuf hn h]) hne
  | zero =>
    cases sequencerStep_of_step hn h with
    | @appended hp b v =>
      have hj := append_rxbuf_ne (v := v) (s := rxFetched b s.seqTurn) (j := j) (by simpa using hne)
      exact ⟨rfl, hp, by simpa using hj⟩
    | _ => exact absurd (by simp) hne

/-! ### The host's fields -/

/-- Settles O57: no outcome of the sequencer's turn writes a field of the host, and only the cleanup clears STOPREQ. -/
theorem sequencerLeavesTheHostsFields : Obligations.SequencerLeavesTheHostsFields := by
  intro s t h0 h
  cases sequencerStep_of_step h0 h <;> simp

end Sys2Proof.Machine
end

section
/-! PROOFS. LOGMASK decides only which events join the sink (R140): with every mask the sequencer's turn does what it
does with no category on. -/

namespace Sys2Proof.Machine

open Sys2Proof

/-- R140: the state with no category on and nothing in the sink. -/
def State.untraced (s : State) : State := { s with logmask := 0, sink := [] }

/-- The outcome of a step with its next state untraced. -/
def untracedOutcome : Host.Outcome State Fault Refusal → Host.Outcome State Fault Refusal
  | .next t => .next t.untraced
  | .fault r => .fault r
  | .refused r => .refused r

/-- An operation that does to the untraced state what it does to the state, the trace apart. -/
def MaskBlind (f : State → State) : Prop := ∀ s, f s.untraced = (f s).untraced

/-- What a turn reads of the state is there untraced. -/
@[simp] theorem State.untraced_reads (s : State) :
    s.untraced.phase = s.phase ∧ s.untraced.ds = s.ds ∧ s.untraced.stopreq = s.stopreq ∧
    s.untraced.ackpos = s.ackpos ∧ s.untraced.stopsAtRead = s.stopsAtRead ∧
    unboundedByte s.untraced = unboundedByte s ∧ writeAnswer s.untraced = writeAnswer s ∧
    boundedAnswer s.untraced = boundedAnswer s ∧ txByte s.untraced = txByte s :=
  ⟨rfl, rfl, rfl, rfl, rfl, rfl, rfl, rfl, rfl⟩

/-! ### The operations -/

/-- R140: with no category on nothing is traced, and what was traced is left out. -/
theorem trace_maskBlind (c : LogCat) (d : TraceData) : MaskBlind (trace c d) := by
  intro s
  simp [trace_eq, State.untraced]

/-- A choice between two operations by a condition that depends neither on the mask nor on the sink. -/
theorem MaskBlind.ite {c : State → Prop} [DecidablePred c] {f g : State → State} (hc : ∀ s, c s.untraced ↔ c s)
    (hf : MaskBlind f) (hg : MaskBlind g) : MaskBlind fun s => if c s then f s else g s := by
  intro s
  dsimp only
  rw [if_congr (hc s) (hf s) (hg s), apply_ite State.untraced]

theorem MaskBlind.comp {f g : State → State} (hf : MaskBlind f) (hg : MaskBlind g) : MaskBlind fun s => f (g s) := by
  intro s
  dsimp only
  rw [hg s, hf (g s)]

/-- R470. -/
theorem finishTx_maskBlind (code : TxCode) : MaskBlind (finishTx code) := by
  by_cases hc : code = .ok
  · subst hc
    exact fun _ => rfl
  · intro s
    have h := trace_maskBlind .error (.code code) { s with txcode := code, cntTxFail := s.cntTxFail.succ }
    simp only [finishTx, if_neg hc]
    exact congrArg (fun t : State => { t with txDone := true, phase := .idle }) h

/-- R417. -/
theorem append_maskBlind (v : Byte) : MaskBlind (append v) :=
  .ite (c := fun s => s.rxlen.toNat < Config.maxLen) (fun _ => .rfl) (fun _ => rfl)
    (.ite (c := fun s => s.rxovf = false) (fun _ => .rfl)
      (.comp (g := fun s => { s with rxovf := true, cntOvf := s.cntOvf.succ }) (trace_maskBlind _ _) fun _ => rfl)
      fun _ => rfl)

/-- R403, R404. -/
theorem unlessHunting_maskBlind {f : State → State} (hf : MaskBlind f) : MaskBlind (unlessHunting f) :=
  .ite (c := fun s => s.phase = .rxHunt) (fun _ => .rfl) (fun _ => rfl) hf

/-- R411, R413, R414, R416: a symbol that brings the decoder back to state 0, with an effect that only RX has. -/
theorem backToNormal_maskBlind {f : State → State} (hf : MaskBlind f) :
    MaskBlind fun s => { unlessHunting f s with ds := .normal } :=
  .comp (f := fun s => { s with ds := .normal }) (fun _ => rfl) (unlessHunting_maskBlind hf)

/-- R413. -/
theorem escAnomaly_maskBlind (b : Byte) : MaskBlind (escAnomaly b) :=
  .comp (g := fun s => { s with cntEsc := s.cntEsc.succ }) (trace_maskBlind _ _) fun _ => rfl

/-- R416. -/
theorem markAnomaly_maskBlind (b : Byte) : MaskBlind (markAnomaly b) :=
  .comp (g := fun s => { s with cntMark := s.cntMark.succ }) (trace_maskBlind _ _) fun _ => rfl

/-- R415. -/
theorem completeTelegram_maskBlind : MaskBlind completeTelegram := fun s =>
  congrArg (fun t : State => { t with phase := .idle })
    (trace_maskBlind .packetDump (.telegram (rxTelegram s)) { s with rxDone := true })

/-- R465. -/
theorem ackMatched_maskBlind : MaskBlind ackMatched :=
  .ite (c := fun s => s.ackpos + 1 = 3) (fun _ => .rfl)
    (.comp (g := fun s => { s with ackpos := s.ackpos + 1 }) (finishTx_maskBlind .ok) fun _ => rfl) fun _ => rfl

/-- R452. -/
theorem stepTxWrite_maskBlind (b : Byte) : MaskBlind (stepTxWrite b) := by
  intro s
  have h : trace .byteTrace (.byte b) (txWrite b s.untraced) = (trace .byteTrace (.byte b) (txWrite b s)).untraced :=
    trace_maskBlind _ _ (txWrite b s)
  simp only [stepTxWrite, State.untraced_reads, h]
  cases writeAnswer s with
  | fail => exact finishTx_maskBlind _ _
  | ok => rfl

/-- R453, R454, R455. -/
theorem stepTxEcho1_maskBlind (b : Byte) : MaskBlind (stepTxEcho1 b) := by
  intro s
  have h : rxReadBounded .tEcho s.untraced = (rxReadBounded .tEcho s).untraced := rfl
  simp only [stepTxEcho1, State.untraced_reads, h]
  cases boundedAnswer s with
  | timeout => exact finishTx_maskBlind _ _
  | byte e =>
    dsimp only
    split_ifs
    · exact finishTx_maskBlind _ _
    · rfl
    · rfl

/-- R456. -/
theorem stepTxEcho2_maskBlind : MaskBlind stepTxEcho2 := by
  intro s
  have h : rxReadBounded .tEcho s.untraced = (rxReadBounded .tEcho s).untraced := rfl
  simp only [stepTxEcho2, State.untraced_reads, h]
  cases boundedAnswer s with
  | timeout => exact finishTx_maskBlind _ _
  | byte e =>
    dsimp only
    split_ifs
    · exact finishTx_maskBlind _ _
    · rfl

/-- R462. -/
theorem stepTxBrkOff_maskBlind : MaskBlind stepTxBrkOff :=
  .ite (c := fun s => s.brkfail = true) (fun _ => .rfl)
    (.comp (g := fun s => { setParity .off s with par := .off }) (finishTx_maskBlind .brkWrfail) fun _ => rfl)
    fun _ => rfl

/-- R403 to R416, R465: the meaning of a receive or an acknowledgment symbol. -/
theorem exec_symbol_untraced {i : Instr} (hi : (encode i).format = .rxsym ∨ (encode i).format = .acksym) (s : State) :
    exec i s.untraced = untracedOutcome (exec i s) := by
  have lift {f : State → State} (hf : MaskBlind f) :
      (.next (f s.untraced) : Host.Outcome State Fault Refusal) = untracedOutcome (.next (f s)) :=
    congrArg Host.Outcome.next (hf s)
  cases i with
  | hostRead | hostWrite | recv | xmit | start | stop | tokenAck | tokenUnknown | tokenAssign | tokenRelease =>
    simp [encode, Encoded.format] at hi
  | s0Esc | s1Mark => rfl
  | s0Lit | s1Ff => exact lift (backToNormal_maskBlind (append_maskBlind _))
  | s1Bad b => exact lift (backToNormal_maskBlind (escAnomaly_maskBlind b))
  | s2Bad b => exact lift (backToNormal_maskBlind (markAnomaly_maskBlind b))
  | s2Break =>
    exact lift (.ite (c := fun s => s.phase = .rxHunt) (f := fun s => endHunt { s with ds := .normal })
      (fun _ => .rfl) (fun _ => rfl)
      (.comp (g := fun s => { s with ds := .normal }) completeTelegram_maskBlind fun _ => rfl))
  | ackB0 | ackB1 | ackB2 => exact lift ackMatched_maskBlind
  | ackBad => exact lift (finishTx_maskBlind _)

/-! ### The sequencer's turn -/

/-- A fetched symbol runs the same in the untraced state. -/
theorem runFetched_symbol_untraced {e : Encoded} (he : e.format = .rxsym ∨ e.format = .acksym) (s : State) :
    runFetched (.run e s.untraced) = untracedOutcome (runFetched (.run e s)) := by
  cases hd : decode e with
  | ok i =>
    rw [runFetched_run hd, runFetched_run hd]
    exact exec_symbol_untraced (by rwa [encode_format_of_decode hd]) s
  | error r => simp [runFetched, hd, untracedOutcome]

/-- R403, R404, R419. -/
theorem rxTurn_untraced (s : State) : runFetched (rxTurn s.untraced) = untracedOutcome (runFetched (rxTurn s)) := by
  simp only [rxTurn, State.untraced_reads]
  split
  · rfl
  · split
    · rfl
    next b _ =>
      have h : unlessHunting (trace .byteTrace (.byte b)) (rxReadInf b s.untraced) = (rxFetched b s).untraced :=
        unlessHunting_maskBlind (trace_maskBlind _ _) (rxReadInf b s)
      rw [h]
      exact runFetched_symbol_untraced (.inl rfl) _

/-- R465. -/
theorem ackTurn_untraced (s : State) : runFetched (ackTurn s.untraced) = untracedOutcome (runFetched (ackTurn s)) := by
  have h : rxReadBounded .tAck s.untraced = (rxReadBounded .tAck s).untraced := rfl
  simp only [ackTurn, State.untraced_reads, h]
  split
  · rw [finishTx_maskBlind]
    rfl
  · exact runFetched_symbol_untraced (.inr rfl) _

/-- R452, R453. -/
theorem withTxByte_untraced {f : Byte → State → State} (hf : ∀ b, MaskBlind (f b)) (s : State) :
    runFetched (withTxByte f s.untraced) = untracedOutcome (runFetched (withTxByte f s)) := by
  simp only [withTxByte, State.untraced_reads]
  split
  · rw [hf]
    rfl
  · rfl

/-- R501: the sequencer's turn, phase by phase. -/
theorem sequencerTurn_untraced (s : State) :
    runFetched (sequencerTurn s.untraced) = untracedOutcome (runFetched (sequencerTurn s)) := by
  simp only [sequencerTurn, State.untraced_reads]
  cases s.phase with
  | off => rfl
  | idle =>
    dsimp only
    split <;> rfl
  | rxHunt | rx => exact rxTurn_untraced s
  | txWrite => exact withTxByte_untraced stepTxWrite_maskBlind s
  | txEcho1 => exact withTxByte_untraced stepTxEcho1_maskBlind s
  | txEcho2 => exact congrArg Host.Outcome.next (stepTxEcho2_maskBlind s)
  | txBrkOn | txBrkWr => rfl
  | txBrkOff => exact congrArg Host.Outcome.next (stepTxBrkOff_maskBlind s)
  | txAck => exact ackTurn_untraced s

/-- R140: the step in the sequencer's turn, the trace apart. -/
theorem step_untraced {s : State} (h0 : s.env.outsideTurns = 0) : step s.untraced = untracedOutcome (step s) := by
  rw [step_of_sequencer h0, step_of_sequencer (s := s.untraced) h0]
  exact sequencerTurn_untraced s.seqTurn

/-- An outcome that is a next state once untraced was one. -/
theorem exists_next_of_untracedOutcome {o : Host.Outcome State Fault Refusal} {t : State}
    (h : untracedOutcome o = .next t) : ∃ u, o = .next u ∧ u.untraced = t := by
  cases o with
  | next u => exact ⟨u, rfl, by simpa [untracedOutcome] using h⟩
  | fault r => cases h
  | refused r => cases h

/-- States that are the same untraced differ in LOGMASK and the sink only. -/
theorem eq_of_untraced_eq {t u : State} {m : BitVec 6} (h : u.untraced = t.untraced) (hm : u.logmask = m) :
    u = { t with logmask := m, sink := u.sink } := by
  subst hm
  exact congrArg (fun v : State => { v with logmask := u.logmask, sink := u.sink }) h

/-- Settles O60: the two steps are the same untraced, and the sequencer leaves the mask. -/
theorem logmaskAffectsOnlyTheTrace : Obligations.LogmaskAffectsOnlyTheTrace := by
  intro s t m h0 h
  have hu : untracedOutcome (step { s with logmask := m }) = .next t.untraced :=
    calc untracedOutcome (step { s with logmask := m })
      _ = step s.untraced := (step_untraced (s := { s with logmask := m }) h0).symm
      _ = untracedOutcome (step s) := step_untraced h0
      _ = .next t.untraced := by rw [h]; rfl
  obtain ⟨u, hstep, he⟩ := exists_next_of_untracedOutcome hu
  obtain ⟨_, _, _, hm, _⟩ := sequencerLeavesTheHostsFields { s with logmask := m } u h0 hstep
  exact ⟨u.sink, hstep.trans (congrArg Host.Outcome.next (eq_of_untraced_eq he hm))⟩

end Sys2Proof.Machine
end

section
/-! PROOFS. The registers' layout (R150): a register is its fields, each at its place, and so is a concatenation. -/

namespace Sys2Proof.Machine

open Sys2Proof

/-! ### Concatenations as fields -/

/-- A concatenation is its two parts, each at its place. -/
theorem fieldBits_append {n m : Nat} (k : Nat) (hi : BitVec n) (lo : BitVec m) :
    fieldBits k (hi ++ lo) = fieldBits (k + m) hi ||| fieldBits k lo := by
  unfold fieldBits
  ext i hi'
  simp only [BitVec.getElem_or, BitVec.getElem_shiftLeft, BitVec.getElem_setWidth, BitVec.getLsbD_append]
  by_cases hk : i < k
  · simp [hk, show i < k + m by omega]
  · by_cases hm : i < k + m
    · simp [hk, hm, show i - k < m by omega]
    · have hlo : lo.getLsbD (i - k) = false := BitVec.getLsbD_of_ge _ _ (by omega)
      simp [hk, hm, hlo, show ¬ i - k < m by omega, Nat.sub_sub]

/-- A register is the field of 32 bits at bit 0. -/
theorem fieldBits_self (v : Reg) : fieldBits 0 v = v := by
  simp [fieldBits]

/-- Zero bits of a register. -/
theorem fieldBits_zero {n : Nat} (k : Nat) : fieldBits k (0 : BitVec n) = 0#32 := by
  simp [fieldBits]

/-- A flag is a field of one bit. -/
theorem fieldBits_ofBool (k : Nat) (b : Bool) : fieldBits k (BitVec.ofBool b) = flagBit k b := by
  cases b
  · simp [fieldBits, flagBit]
  · simp [fieldBits, flagBit, BitVec.twoPow]

/-- A register whose only field stands at bit 0. -/
theorem fieldBits_eq_zero_append {n m : Nat} (h : n + m = 32) (x : BitVec m) :
    fieldBits 0 x = ((0 : BitVec n) ++ x).cast h := by
  obtain rfl : n = 32 - m := by omega
  rw [fieldBits, BitVec.shiftLeft_zero, BitVec.setWidth_eq_append (by omega)]
  rfl

/-! ### The registers with several fields, from the most significant bit -/

/-- R150 index 0x01. -/
theorem statusReg_eq (s : State) :
    statusReg s = (0 : BitVec 24) ++ BitVec.ofBool (decide (s.par = .even)) ++ BitVec.ofBool s.startFail ++
      BitVec.ofBool s.cmderr ++ BitVec.ofBool s.stopreq ++ BitVec.ofBool s.txDone ++ BitVec.ofBool s.rxDone ++
      BitVec.ofBool s.busy ++ BitVec.ofBool s.run := by
  rw [← fieldBits_self (_ ++ BitVec.ofBool s.run), fieldBits_append (n := 24 + 1 + 1 + 1 + 1 + 1 + 1 + 1) (m := 1)]
  simp only [fieldBits_append, fieldBits_zero, fieldBits_ofBool, BitVec.zero_or]
  simp only [Nat.reduceAdd, statusReg]
  ac_rfl

/-- R150 index 0x02. -/
theorem rxstatReg_eq (s : State) :
    rxstatReg s = (0 : BitVec 22) ++ BitVec.ofBool s.rxAbort ++ BitVec.ofBool s.rxovf ++ (0 : BitVec 2) ++ s.rxlen := by
  rw [← fieldBits_self (_ ++ s.rxlen), fieldBits_append (n := 22 + 1 + 1 + 2) (m := 6)]
  simp only [fieldBits_append, fieldBits_zero, fieldBits_ofBool, BitVec.zero_or, BitVec.or_zero]
  simp only [Nat.reduceAdd, rxstatReg]
  ac_rfl

/-- R150 index 0x04. -/
theorem txstatReg_eq (s : State) :
    txstatReg s = (0 : BitVec 20) ++ txCodeBits s.txcode ++ (0 : BitVec 2) ++ s.txcnt := by
  rw [← fieldBits_self (_ ++ s.txcnt), fieldBits_append (n := 20 + 4 + 2) (m := 6)]
  simp only [fieldBits_append, fieldBits_zero, BitVec.zero_or, BitVec.or_zero]
  simp only [Nat.reduceAdd, txstatReg]
  ac_rfl

/-- R150 index 0x06. -/
theorem seqReg_eq (s : State) :
    seqReg s = (0 : BitVec 16) ++ BitVec.ofBool s.brkfail ++ BitVec.ofBool s.hunted ++ s.txidx ++ s.ackpos ++
      dsCode s.ds ++ phaseCode s.phase := by
  rw [← fieldBits_self (_ ++ phaseCode s.phase), fieldBits_append (n := 16 + 1 + 1 + 6 + 2 + 2) (m := 4)]
  simp only [fieldBits_append, fieldBits_zero, fieldBits_ofBool, BitVec.zero_or]
  simp only [Nat.reduceAdd, seqReg]
  ac_rfl

/-! ### Which register an index names -/

/-- R102: BUSY, by the phases in which it is 0. -/
theorem State.busy_eq (s : State) : s.busy = decide (s.phase ≠ .off ∧ s.phase ≠ .idle) := by
  unfold State.busy
  cases s.phase <;> simp

/-- R150: the indices of RXB. -/
theorem readReg_rxb (i : Fin 32) (s : State) : readReg (0x20 + BitVec.ofNat 8 i) s = fieldBits 0 s.rxbuf[i] := by
  have h : rxbSlot (0x20 + BitVec.ofNat 8 i) = some i := rxbSlot_eq_some.2 (by bv_omega)
  simp only [readReg, h]

/-- R150: the indices of TXB, none of which is one of RXB. -/
theorem readReg_txb (i : Fin 32) (s : State) : readReg (0x40 + BitVec.ofNat 8 i) s = fieldBits 0 s.txbuf[i] := by
  have h : txbSlot (0x40 + BitVec.ofNat 8 i) = some i := txbSlot_eq_some.2 (by bv_omega)
  have hr : rxbSlot (0x40 + BitVec.ofNat 8 i) = none := by
    rw [Option.eq_none_iff_forall_ne_some]
    intro j hj
    have := rxbSlot_eq_some.1 hj
    bv_omega
  simp only [readReg, h, hr]

/-- R150: a reserved index is that of no register. -/
theorem reserved_names_nothing : ∀ idx : BitVec 8, idx = 0x07 ∨ (0x0D ≤ idx ∧ idx ≤ 0x1F) ∨ 0x60 ≤ idx →
    rxbSlot idx = none ∧ txbSlot idx = none ∧
      idx ∉ [0x01, 0x02, 0x03, 0x04, 0x05, 0x06, 0x08, 0x09, 0x0A, 0x0B, 0x0C] := by
  decide

/-- R150, R510: a reserved index reads 0. -/
theorem readReg_reserved {idx : BitVec 8} (h : idx = 0x07 ∨ (0x0D ≤ idx ∧ idx ≤ 0x1F) ∨ 0x60 ≤ idx) (s : State) :
    readReg idx s = 0 := by
  obtain ⟨hr, ht, hn⟩ := reserved_names_nothing idx h
  simp only [List.mem_cons, List.not_mem_nil, or_false, not_or] at hn
  simp only [readReg, hr, ht, hn, if_false]

/-- Settles O15: each register's own lemma, and zero bits above the field of one that has a single field. -/
theorem registersHaveTheirLayout : Obligations.RegistersHaveTheirLayout := by
  intro s
  refine ⟨rfl, ?_, rxstatReg_eq s, fieldBits_eq_zero_append rfl _, txstatReg_eq s,
    fieldBits_eq_zero_append rfl _, seqReg_eq s, rfl, rfl, rfl, rfl, rfl, fun i => ?_, fun i => ?_,
    fun idx h => readReg_reserved h s⟩
  · rw [← State.busy_eq]
    exact statusReg_eq s
  · rw [readReg_rxb]
    exact fieldBits_eq_zero_append rfl _
  · rw [readReg_txb]
    exact fieldBits_eq_zero_append rfl _

end Sys2Proof.Machine
end

section
/-! PROOFS. The state after reset. -/

namespace Sys2Proof.Machine

open Sys2Proof

/-- Settles O5: R160's table, read off `State.reset`. -/
theorem resetGivesTheSpecsValues : Obligations.ResetGivesTheSpecsValues :=
  ⟨rfl, rfl, rfl, rfl, rfl, rfl, rfl, rfl, rfl, rfl, rfl, rfl, rfl, rfl, rfl, rfl, rfl, rfl, rfl, rfl, rfl, rfl, rfl, rfl,
    rfl⟩

end Sys2Proof.Machine
end

section
/-! PROOFS. The marked stream and its reads (R222, R224). -/

namespace Sys2Proof.Machine

open Sys2Proof

/-! ### The bounded read -/

/-- R224, log entry 9: with nothing queued a bounded read ends in `TIMEOUT`. -/
theorem boundedRead_of_empty (k : Bound) {s : State} (hq : s.chan.stream = []) :
    boundedAnswer s = .timeout ∧
      rxReadBounded k s = { s with chan := { s.chan with calls := s.chan.calls ++ [.rxRead k .timeout] } } := by
  have ha : boundedAnswer s = .timeout := by simp only [boundedAnswer, hq]
  exact ⟨ha, by simp [rxReadBounded, record, ha, hq]⟩

/-- R14, R224: a `TIMEOUT` drawn while a byte is queued consumes nothing. -/
theorem boundedRead_of_timeout (k : Bound) {s : State} {b : Byte} {q : List Byte} (hq : s.chan.stream = b :: q)
    (hd : timeoutDrawn s = true) :
    boundedAnswer s = .timeout ∧
      rxReadBounded k s = { s with
        env := useTimeout s.env, chan := { s.chan with calls := s.chan.calls ++ [.rxRead k .timeout] } } := by
  have ha : boundedAnswer s = .timeout := by simp only [boundedAnswer, hq, hd, if_true]
  exact ⟨ha, by simp [rxReadBounded, record, ha, hq]⟩

/-- R224: a bounded read that does not time out returns the oldest byte and consumes it. -/
theorem boundedRead_of_byte (k : Bound) {s : State} {b : Byte} {q : List Byte} (hq : s.chan.stream = b :: q)
    (hd : timeoutDrawn s = false) :
    boundedAnswer s = .byte b ∧
      rxReadBounded k s = { s with
        env := useTimeout s.env,
        chan := { s.chan with stream := q, calls := s.chan.calls ++ [.rxRead k (.byte b)] } } := by
  have ha : boundedAnswer s = .byte b := by simp [boundedAnswer, hq, hd]
  exact ⟨ha, by simp [rxReadBounded, record, ha, hq]⟩

/-- Settles O40: by what is queued and what is drawn. -/
theorem boundedReadReturnsByteOrTimeout : Obligations.BoundedReadReturnsByteOrTimeout := fun _ k _ _ =>
  ⟨boundedRead_of_empty k, boundedRead_of_timeout k, boundedRead_of_byte k⟩

/-! ### Marking one line event -/

/-- R222: a byte received without error is delivered as itself, unless it is 0xFF. -/
theorem mark_good_of_ne {b : Byte} (h : b ≠ 0xFF) : mark (.good b) = [b] := if_neg h

/-- R222: a literal 0xFF is doubled. -/
@[simp] theorem mark_good_ff : mark (.good 0xFF) = [0xFF, 0xFF] := rfl

/-- R222: an errored byte follows the mark `FF 00`. -/
@[simp] theorem mark_errored (x : Byte) : mark (.errored x) = [0xFF, 0x00, x] := rfl

/-- Settles O50: event by event; the break is the errored zero byte. -/
theorem markedBytesOfLineEvents : Obligations.MarkedBytesOfLineEvents := fun _ x =>
  ⟨mark_good_of_ne, mark_good_ff, fun _ => mark_errored x, mark_lineBreak⟩

end Sys2Proof.Machine
end

section
/-! PROOFS. What a turn of the outside leaves alone (R202, R205, R206, R225, R505, R611, R711). -/

namespace Sys2Proof.Machine

open Sys2Proof

/-- R202, R205, R206, R225: the parameters, the received bytes, PAR, the queued bytes and the four counters of `s` stand
in `t`; RXLEN may have been cleared. -/
def ReceivedKept (s t : State) : Prop :=
  t.params = s.params ∧ t.rxbuf = s.rxbuf ∧ (t.rxlen = s.rxlen ∨ t.rxlen = 0) ∧ t.par = s.par ∧
    (s.phase ≠ .off → t.chan.parity = s.chan.parity) ∧ s.chan.stream <+: t.chan.stream ∧
    t.cntEsc = s.cntEsc ∧ t.cntMark = s.cntMark ∧ t.cntOvf = s.cntOvf ∧ t.cntTxFail = s.cntTxFail

/-- R505, R611: every field of a running command, and the record of primitives, stand in `t` as in `s`. -/
def CommandKept (s t : State) : Prop :=
  t.phase = s.phase ∧ t.ds = s.ds ∧ t.rxlen = s.rxlen ∧ t.rxovf = s.rxovf ∧ t.rxDone = s.rxDone ∧
    t.rxAbort = s.rxAbort ∧ t.hunted = s.hunted ∧ t.txidx = s.txidx ∧ t.txcnt = s.txcnt ∧ t.ackpos = s.ackpos ∧
    t.txcode = s.txcode ∧ t.txDone = s.txDone ∧ t.brkfail = s.brkfail ∧ t.cntTxTotal = s.cntTxTotal ∧
    t.chan.calls = s.chan.calls

/-- What a turn of the outside that leads from `s` to `t` leaves alone: R711 adds the telegram of a running XMIT. -/
def OutsideKeeps (s t : State) : Prop :=
  ReceivedKept s t ∧ (s.busy = true → CommandKept s t) ∧ (s.txBusy = true → t.txbuf = s.txbuf ∧ t.txlen = s.txlen)

/-- R401: a RECV is accepted only when no command runs. -/
theorem State.not_busy_of_acceptsRecv {s : State} (h : s.acceptsRecv = true) : s.busy = false := by
  have hp : s.phase = .idle := by simp_all [State.acceptsRecv]
  simp [State.busy, hp]

/-- R450: an XMIT is accepted only when no command runs. -/
theorem State.not_busy_of_acceptsXmit {s : State} (h : s.acceptsXmit = true) : s.busy = false := by
  have hp : s.phase = .idle := by simp_all [State.acceptsXmit]
  simp [State.busy, hp]

/-- R500: a START is accepted only in OFF. -/
theorem State.off_of_acceptsStart {s : State} (h : s.acceptsStart = true) : s.phase = .off := by
  simpa [State.acceptsStart] using h

/-- R500, log entry 7: a START keeps the received bytes and those queued, whatever its `Open()` is answered. -/
theorem acceptedStart_receivedKept {s : State} (hp : s.phase = .off) : ReceivedKept s (acceptedStart s) := by
  cases ho : openAnswer s with
  | ok => simp [acceptedStart_of_ok ho, ReceivedKept, hp]
  | fail => simp [acceptedStart_of_fail ho, ReceivedKept, hp]

/-- R102: an XMIT is a command. -/
theorem State.busy_of_txBusy {s : State} (h : s.txBusy = true) : s.busy = true := by
  revert h
  unfold State.txBusy State.busy
  cases s.phase <;> simp

/-- While no command runs, only the received bytes are to be kept. -/
theorem OutsideKeeps.of_not_busy {s t : State} (hb : s.busy = false) (h : ReceivedKept s t) : OutsideKeeps s t :=
  ⟨h, fun hs => by simp [hb] at hs, fun hs => by simp [State.busy_of_txBusy hs] at hb⟩

/-- R202, R505, R711: a write of the host leaves a running command alone; the commands it can start wait for
`BUSY = 0`, and the writes of the telegram for `TXBUSY = 0`. -/
theorem writeReg_outsideKeeps (idx : BitVec 8) (v : Reg) (s : State) : OutsideKeeps s (writeReg idx v s) := by
  obtain h | ⟨hx, i, h⟩ | ⟨hx, h⟩ | h | ⟨ha, h⟩ | ⟨ha, h⟩ | ⟨ha, h⟩ | ⟨_, h⟩ := writeReg_cases idx v s <;> rw [h]
  case inr.inl | inr.inr.inl => simp [OutsideKeeps, ReceivedKept, CommandKept, hx]
  case inr.inr.inr.inr.inl =>
    exact .of_not_busy (State.not_busy_of_acceptsRecv ha) (by simp [ReceivedKept])
  case inr.inr.inr.inr.inr.inl =>
    exact .of_not_busy (State.not_busy_of_acceptsXmit ha) (by simp [ReceivedKept])
  case inr.inr.inr.inr.inr.inr.inl =>
    have hp := State.off_of_acceptsStart ha
    exact .of_not_busy (by simp [State.busy, hp]) (acceptedStart_receivedKept hp)
  all_goals simp [OutsideKeeps, ReceivedKept, CommandKept]

/-- Settles O58: a turn of the outside queues a byte, answers the client, or writes a register. -/
theorem outsideLeavesReceivedBytesAndARunningCommand : Obligations.OutsideLeavesReceivedBytesAndARunningCommand := by
  intro s t h0 h
  obtain ⟨n, hn⟩ := Nat.exists_eq_succ_of_ne_zero h0
  obtain ⟨e, _, hs | ⟨b, hs⟩ | ⟨r, hs⟩ | ⟨idx, v, hs⟩⟩ := step_of_outside_cases hn <;> rw [h] at hs <;> cases hs
  · simp
  · simp
  · simp
  · exact writeReg_outsideKeeps idx v { s with env := e }

end Sys2Proof.Machine
end

section
/-! PROOFS. The word that `placeFetched` places is the one the next step runs (log entry 11). -/

namespace Sys2Proof.Machine

open Sys2Proof

/-! ### A word placed on the outside's tape -/

/-- R302: the command write of R341 decodes to a write of CMD. -/
theorem decodeHost_cmdWord (op : Byte) : decodeHost (cmdWord op) = .hostWrite 0x00 (op.setWidth 32) := by
  obtain ⟨hw, hidx, hval⟩ := hostWord_fields 1 0x00 (op.setWidth 32)
  simp only [decodeHost, cmdWord, wr, hw, hidx, hval]
  rfl

/-- R302: the opcode is the low byte of the value that R341 writes. -/
@[simp] theorem valOp_setWidth (op : Byte) : valOp (op.setWidth 32) = op := by
  simp [valOp]

/-- R303, R502: a write of a command's opcode to CMD runs the command's instruction. -/
theorem exec_cmdWord {op : Byte} {i : Instr} (h : decode (.cmd op) = .ok i) (s : State) :
    exec (decodeHost (cmdWord op)) s = exec i s := by
  have hw : exec (decodeHost (cmdWord op)) s = .next (writeCmd (op.setWidth 32) s) := by
    rw [decodeHost_cmdWord]
    rfl
  rw [hw, writeCmd, valOp_setWidth]
  simp only [decode, decodeCmd] at h
  cases hc : commandOf op with
  | none => simp [hc] at h
  | some c =>
    simp only [hc] at h
    cases c <;> cases h <;> rfl

/-- Log entry 11: the turn that a placed event adds begins in the state as it was. -/
theorem placeEvent_outTurn (v : Event) (s : State) : (placeEvent v s).outTurn = s := rfl

/-- R13: the step after the placing of a host word. -/
theorem step_placeEvent_host (w : HostWord) (s : State) :
    step (placeEvent (.host w) s) = exec (decodeHost w) s := by
  rw [step_of_event (v := .host w) rfl rfl, placeEvent_outTurn]

/-- R13, R330: the step after the placing of a byte to classify. -/
theorem step_placeEvent_classify (b : Byte) (s : State) :
    step (placeEvent (.classify b) s) = exec (decodeToken b) s := by
  rw [step_of_event (v := .classify b) rfl rfl, placeEvent_outTurn]

/-! ### A symbol placed at the head of the stream -/

/-- R304, R305: a symbol is its state or position, then its byte. -/
theorem symbol_append (w : Symbol) : w.extractLsb' 8 2 ++ w.extractLsb' 0 8 = w := by
  rw [BitVec.extractLsb'_append_extractLsb'_eq_extractLsb' (by rfl)]
  exact BitVec.extractLsb'_eq_self

/-- R304: a receive symbol that decodes names a decoder state. -/
theorem exists_dsOfCode_of_decode {w : Symbol} {i : Instr} (h : decode (.rxsym w) = .ok i) :
    ∃ d, dsOfCode (w.extractLsb' 8 2) = some d ∧ dsCode d = w.extractLsb' 8 2 := by
  by_cases h0 : w.extractLsb' 8 2 = 0
  · exact ⟨.normal, by rw [h0]; rfl, h0.symm⟩
  by_cases h1 : w.extractLsb' 8 2 = 1
  · exact ⟨.sawFF, by rw [h1]; rfl, h1.symm⟩
  by_cases h2 : w.extractLsb' 8 2 = 2
  · exact ⟨.marked, by rw [h2]; rfl, h2.symm⟩
  simp only [decode, decodeRx, h0, h1, h2, if_false, reduceCtorEq] at h

/-- R404: a receive step that finds a byte forms its symbol. -/
theorem step_of_rx_byte {s : State} {b : Byte} {q : List Byte} (h0 : s.env.outsideTurns = 0) (hp : s.phase = .rx)
    (hs : s.stopsAtRead = false) (hb : s.chan.stream = b :: q) :
    step s = runFetched (.run (.rxsym (rxSymbol s.ds b)) (rxFetched b s.seqTurn)) := by
  have hu : unboundedByte s.seqTurn = some b := by simp [unboundedByte, hb]
  have hst : s.seqTurn.stopsAtRead = false := hs
  rw [step_of_sequencer h0]
  simp [sequencerTurn, rxTurn, hp, hst, hu, rxFetched]

/-- R465: an acknowledgment step that reads a byte forms its symbol. -/
theorem step_of_ack_byte {s : State} {a : Byte} (h0 : s.env.outsideTurns = 0) (hp : s.phase = .txAck)
    (ha : boundedAnswer s.seqTurn = .byte a) :
    step s = runFetched (.run (.acksym (ackSymbol s.ackpos a)) (rxReadBounded .tAck s.seqTurn)) := by
  rw [step_of_sequencer h0]
  simp [sequencerTurn, ackTurn, hp, ha]

/-- R501: the sequencer's turn leaves the draws of the bounded waits, so the next one is as the tape names it. -/
theorem timeoutDrawn_seqTurn {s : State} {d : Bool} {ds : List Bool} (h : s.env.timeouts = d :: ds) :
    timeoutDrawn s.seqTurn = d := by
  have hu : (useBurst s.env).timeouts = d :: ds := by
    unfold useBurst
    split <;> exact h
  simp [timeoutDrawn, hu]

/-- Log entry 11: a placed receive symbol is run in RX, in its decoder state, its byte taken from the stream again. -/
theorem step_placeFetched_rxsym {w : Symbol} {i : Instr} (h : decode (.rxsym w) = .ok i) (s : State) :
    ∃ t, step (placeFetched (.rxsym w) s) = exec i t ∧ t.phase = .rx ∧ dsCode t.ds = w.extractLsb' 8 2 ∧
      t.rxbuf = s.rxbuf ∧ t.rxlen = s.rxlen ∧ t.rxovf = s.rxovf ∧ t.txbuf = s.txbuf ∧ t.txlen = s.txlen ∧
      t.counters = s.counters ∧ t.chan.stream = s.chan.stream := by
  obtain ⟨d, hd, hc⟩ := exists_dsOfCode_of_decode h
  have hsym : rxSymbol d (w.extractLsb' 0 8) = w := by rw [rxSymbol, hc, symbol_append]
  have hds : (placeFetched (.rxsym w) s).ds = d := by simp [placeFetched, hd]
  have hstop : (placeFetched (.rxsym w) s).stopsAtRead = false := by
    cases hq : s.params.stopAtRead <;> simp [placeFetched, State.stopsAtRead, hq]
  refine ⟨rxFetched (w.extractLsb' 0 8) (placeFetched (.rxsym w) s).seqTurn, ?_, ?_⟩
  · rw [step_of_rx_byte rfl rfl hstop rfl, hds, hsym, runFetched_run h]
  · simp [hd, hc, State.counters, placeFetched]

/-- Log entry 11: a placed acknowledgment symbol is run in TX_ACK, at its position, its byte taken from the stream
again, because the placing has its bounded wait not time out. -/
theorem step_placeFetched_acksym {w : Symbol} {i : Instr} (h : decode (.acksym w) = .ok i) (s : State) :
    ∃ t, step (placeFetched (.acksym w) s) = exec i t ∧ t.phase = .txAck ∧ t.ackpos = w.extractLsb' 8 2 ∧
      t.txcode = s.txcode ∧ t.rxbuf = s.rxbuf ∧ t.rxlen = s.rxlen ∧ t.rxovf = s.rxovf ∧ t.txbuf = s.txbuf ∧
      t.txlen = s.txlen ∧ t.counters = s.counters ∧ t.chan.stream = s.chan.stream := by
  have hsym : ackSymbol (w.extractLsb' 8 2) (w.extractLsb' 0 8) = w := symbol_append w
  obtain ⟨ha, hread⟩ := boundedRead_of_byte .tAck (s := (placeFetched (.acksym w) s).seqTurn) rfl
    (timeoutDrawn_seqTurn rfl)
  refine ⟨rxReadBounded .tAck (placeFetched (.acksym w) s).seqTurn, ?_, ?_⟩
  · rw [step_of_ack_byte rfl rfl ha, show (placeFetched (.acksym w) s).ackpos = w.extractLsb' 8 2 from rfl, hsym,
      runFetched_run h]
  · rw [hread]
    exact ⟨rfl, rfl, rfl, rfl, rfl, rfl, rfl, rfl, rfl, rfl⟩

/-- Settles O13: format by format. -/
theorem placedWordIsRunNext : Obligations.PlacedWordIsRunNext := by
  intro s e i h
  cases e with
  | host w =>
    cases h
    exact ⟨s, step_placeEvent_host w s, rfl⟩
  | cmd op => exact ⟨s, (step_placeEvent_host (cmdWord op) s).trans (exec_cmdWord h s), rfl⟩
  | token b =>
    cases h
    exact ⟨s, step_placeEvent_classify b s, rfl⟩
  | rxsym w => exact step_placeFetched_rxsym h s
  | acksym w => exact step_placeFetched_acksym h s

end Sys2Proof.Machine
end

section
/-! PROOFS. The opcode table (R300): what its masks say of a word, which row applies, and the decoder that follows it. -/

namespace Sys2Proof.Machine

open Sys2Proof

/-! ### The masks of the table -/

/-- R300: a mask of `len` bits from bit `lo` on compares that field of the word with the pattern's. -/
theorem and_fieldMask_eq_iff {n : Nat} (v : BitVec n) (lo len : Nat) {p : Nat}
    (hp : p = p >>> lo % 2 ^ len * 2 ^ lo) :
    v.toNat &&& (2 ^ len - 1) * 2 ^ lo = p ↔ v.extractLsb' lo len = BitVec.ofNat len (p >>> lo) := by
  have hm : v.toNat &&& (2 ^ len - 1) * 2 ^ lo = (v.extractLsb' lo len).toNat * 2 ^ lo := by
    simp only [BitVec.extractLsb'_toNat, ← Nat.shiftLeft_eq]
    apply Nat.eq_of_testBit_eq
    intro k
    by_cases hk : lo ≤ k
    · simp [hk, Nat.testBit_mod_two_pow, Nat.testBit_shiftLeft, Bool.and_comm]
    · simp [hk, Nat.testBit_shiftLeft]
  rw [hm, ← BitVec.toNat_inj, BitVec.toNat_ofNat]
  conv_lhs => rw [hp]
  exact Nat.mul_left_inj (by simp)

/-- R300: a mask of all the word's bits compares the whole word with the pattern. -/
theorem and_fullMask_eq_iff {n : Nat} (v : BitVec n) {p : Nat} (hp : p < 2 ^ n) :
    v.toNat &&& 2 ^ n - 1 = p ↔ v = BitVec.ofNat n p := by
  rw [Nat.and_two_pow_sub_one_eq_mod, Nat.mod_eq_of_lt v.isLt, ← BitVec.toNat_inj, BitVec.toNat_ofNat,
    Nat.mod_eq_of_lt hp]

/-- R300: a mask of one bit. -/
theorem and_bitMask {n : Nat} (v : BitVec n) (k : Nat) :
    v.toNat &&& 2 ^ k = if v.getLsbD k then 2 ^ k else 0 := by
  rw [Nat.and_two_pow, BitVec.testBit_toNat]
  split <;> simp [*]

/-- R301: bit 40 is `W`. -/
@[simp] theorem host_and_bit40 (w : HostWord) :
    w.toNat &&& 0x10000000000 = if w[40] then 0x10000000000 else 0 :=
  and_bitMask w 40

/-- R303: a command's row compares the whole opcode. -/
@[simp] theorem byte_and_FF_eq_iff (b : Byte) {p : Nat} (hp : p < 0x100) :
    b.toNat &&& 0xFF = p ↔ b = BitVec.ofNat 8 p :=
  and_fullMask_eq_iff b hp

/-- R304: the rows for any byte compare the decoder state. -/
@[simp] theorem symbol_and_300_eq_iff (y : Symbol) {p : Nat} (hp : p = p >>> 8 % 2 ^ 2 * 2 ^ 8) :
    y.toNat &&& 0x300 = p ↔ y.extractLsb' 8 2 = BitVec.ofNat 2 (p >>> 8) :=
  and_fieldMask_eq_iff y 8 2 hp

/-- R304, R305: the rows for one byte compare the state or position, and the byte. -/
@[simp] theorem symbol_and_3FF_eq_iff (y : Symbol) {p : Nat} (hp : p < 0x400) :
    y.toNat &&& 0x3FF = p ↔
      y.extractLsb' 8 2 = BitVec.ofNat 2 (p >>> 8) ∧ y.extractLsb' 0 8 = BitVec.ofNat 8 p := by
  refine (and_fullMask_eq_iff y hp).trans ?_
  simp only [← BitVec.toNat_inj, BitVec.extractLsb'_toNat, BitVec.toNat_ofNat, Nat.shiftRight_eq_div_pow]
  omega

/-- R334: `UNKNOWN` compares the five high bits. -/
@[simp] theorem byte_and_F8_eq_zero_iff (b : Byte) : b.toNat &&& 0xF8 = 0 ↔ b.extractLsb' 3 5 = 0#5 :=
  and_fieldMask_eq_iff b 3 5 rfl

/-- R332, R333: `ASSIGN` and `RELEASE` compare the high bit. -/
@[simp] theorem byte_and_80 (b : Byte) : b.toNat &&& 0x80 = if b[7] then 0x80 else 0 :=
  and_bitMask b 7

/-! ### The row that applies -/

/-- R300. -/
theorem matchesWord_iff {r : Row} {f : Format} {w : Nat} :
    r.matchesWord f w = true ↔ r.format = f ∧ w &&& r.mask = r.pattern := by
  simp [Row.matchesWord]

/-- R300: the row that applies is a least one, by its priority number, of those that match. -/
theorem lookupRow_eq_argmin (f : Format) (w : Nat) :
    lookupRow f w = (opcodeTable.filter (·.matchesWord f w)).argmin Row.priority := by
  unfold lookupRow List.argmin
  congr 1
  funext best r
  cases best <;> rfl

/-- R300: two rows of one format and priority differ in a bit that both compare. -/
theorem opcodeTable_patterns_disagree :
    ∀ r ∈ opcodeTable, ∀ q ∈ opcodeTable, q.format = r.format → q.priority = r.priority →
      r.pattern &&& q.mask = q.pattern &&& r.mask → q = r := by decide

/-- R300: no word matches two rows of one priority. -/
theorem eq_of_matchesWord_of_priority_eq {r q : Row} {f : Format} {w : Nat} (hr : r ∈ opcodeTable)
    (hq : q ∈ opcodeTable) (hrm : r.matchesWord f w = true) (hqm : q.matchesWord f w = true)
    (hp : q.priority = r.priority) : q = r := by
  obtain ⟨hrf, hrw⟩ := matchesWord_iff.1 hrm
  obtain ⟨hqf, hqw⟩ := matchesWord_iff.1 hqm
  refine opcodeTable_patterns_disagree r hr q hq (hqf.trans hrf.symm) hp ?_
  rw [← hrw, ← hqw, Nat.and_right_comm]

/-- R300: the row that applies matches, and comes before every other row that does. -/
theorem matches_and_first_of_lookupRow {f : Format} {w : Nat} {r : Row} (h : lookupRow f w = some r) :
    r ∈ opcodeTable ∧ r.matchesWord f w = true ∧
      ∀ q ∈ opcodeTable, q.matchesWord f w = true → q = r ∨ r.priority < q.priority := by
  rw [lookupRow_eq_argmin] at h
  obtain ⟨hr, hrm⟩ := List.mem_filter.1 (List.argmin_mem h)
  refine ⟨hr, hrm, fun q hq hqm => ?_⟩
  rcases (List.le_of_mem_argmin (List.mem_filter.2 ⟨hq, hqm⟩) h).eq_or_lt with hp | hp
  · exact .inl (eq_of_matchesWord_of_priority_eq hr hq hrm hqm hp.symm)
  · exact .inr hp

/-! ### The decoder gives the instruction of that row -/

/-- R300, R301. -/
theorem mnemonic_decodeHost (w : HostWord) :
    some (decodeHost w).mnemonic = (lookupRow .host w.toNat).map Row.mnemonic := by
  simp only [lookupRow, opcodeTable, decodeHost]
  by_cases h : w[40] = true <;> simp [Row.matchesWord, h, Instr.mnemonic]

/-- R300, R303. -/
theorem mnemonic_decodeCmd (op : Byte) :
    (decodeCmd op).toOption.map Instr.mnemonic = (lookupRow .cmd op.toNat).map Row.mnemonic := by
  by_cases h1 : op = 0x01#8
  · subst h1; decide
  by_cases h2 : op = 0x02#8
  · subst h2; decide
  by_cases h3 : op = 0x10#8
  · subst h3; decide
  by_cases h4 : op = 0x11#8
  · subst h4; decide
  · simp [lookupRow, opcodeTable, Row.matchesWord, decodeCmd, commandOf, h1, h2, h3, h4, Except.toOption]

/-- R300, R304: state by state, then the byte. -/
theorem mnemonic_decodeRx (y : Symbol) :
    (decodeRx y).toOption.map Instr.mnemonic = (lookupRow .rxsym y.toNat).map Row.mnemonic := by
  simp only [lookupRow, opcodeTable, decodeRx]
  by_cases h0 : y.extractLsb' 8 2 = 0#2
  · by_cases hb : y.extractLsb' 0 8 = 0xFF#8 <;>
      simp [Row.matchesWord, h0, hb, Except.toOption, Instr.mnemonic]
  by_cases h1 : y.extractLsb' 8 2 = 1#2
  · by_cases hb : y.extractLsb' 0 8 = 0x00#8
    · simp [Row.matchesWord, h1, hb, Except.toOption, Instr.mnemonic]
    by_cases hf : y.extractLsb' 0 8 = 0xFF#8 <;>
      simp [Row.matchesWord, h1, hb, hf, Except.toOption, Instr.mnemonic]
  by_cases h2 : y.extractLsb' 8 2 = 2#2
  · by_cases hb : y.extractLsb' 0 8 = 0x00#8 <;>
      simp [Row.matchesWord, h2, hb, Except.toOption, Instr.mnemonic]
  · simp [Row.matchesWord, h0, h1, h2, Except.toOption]

/-- R300, R305. -/
theorem mnemonic_decodeAck (y : Symbol) :
    some (decodeAck y).mnemonic = (lookupRow .acksym y.toNat).map Row.mnemonic := by
  simp only [lookupRow, opcodeTable, decodeAck]
  by_cases h0 : y.extractLsb' 8 2 = 0#2 ∧ y.extractLsb' 0 8 = 0xFF#8
  · simp [Row.matchesWord, h0, Instr.mnemonic]
  by_cases h1 : y.extractLsb' 8 2 = 1#2 ∧ y.extractLsb' 0 8 = 0x00#8
  · simp [Row.matchesWord, h1, Instr.mnemonic]
  by_cases h2 : y.extractLsb' 8 2 = 2#2 ∧ y.extractLsb' 0 8 = 0x00#8
  · simp [Row.matchesWord, h2, Instr.mnemonic]
  · simp [Row.matchesWord, h0, h1, h2, Instr.mnemonic]

/-- R300, R330 to R334. -/
theorem mnemonic_decodeToken (b : Byte) :
    some (decodeToken b).mnemonic = (lookupRow .token b.toNat).map Row.mnemonic := by
  by_cases h1 : b = 0x01#8
  · subst h1; decide
  simp only [lookupRow, opcodeTable, decodeToken]
  by_cases h5 : b.extractLsb' 3 5 = 0#5 <;> by_cases h7 : b[7] = true <;>
    simp [Row.matchesWord, h1, h5, h7, Instr.mnemonic]

/-- R300: the decoder follows the table, format by format. -/
theorem mnemonic_decode (e : Encoded) :
    (decode e).toOption.map Instr.mnemonic = (lookupRow e.format e.value).map Row.mnemonic := by
  cases e with
  | host w => exact mnemonic_decodeHost w
  | cmd op => exact mnemonic_decodeCmd op
  | rxsym y => exact mnemonic_decodeRx y
  | acksym y => exact mnemonic_decodeAck y
  | token b => exact mnemonic_decodeToken b

/-- R300: a word has no row exactly when the decoder refuses it. -/
theorem lookupRow_eq_none_iff (e : Encoded) : lookupRow e.format e.value = none ↔ ∃ x, decode e = .error x := by
  rw [← Option.map_eq_none_iff (f := Row.mnemonic), ← mnemonic_decode]
  cases decode e <;> simp [Except.toOption]

/-- R300: a word that decodes has a row. -/
theorem lookupRow_ne_none {e : Encoded} {i : Instr} (h : decode e = .ok i) : lookupRow e.format e.value ≠ none := by
  simp [lookupRow_eq_none_iff, h]

/-- R303: the reserved opcodes are those that name no command. -/
theorem commandOf_eq_none_iff (op : Byte) :
    commandOf op = none ↔ op ≠ 0x01 ∧ op ≠ 0x02 ∧ op ≠ 0x10 ∧ op ≠ 0x11 := by
  unfold commandOf
  split_ifs <;> simp_all

/-- R303: the decoder refuses exactly the reserved opcodes. -/
theorem decodeCmd_eq_error_iff (op : Byte) : (∃ x, decodeCmd op = .error x) ↔ commandOf op = none := by
  unfold decodeCmd
  split <;> simp [*]

/-- R304: the decoder refuses exactly the symbols of `DS = 3`. -/
theorem decodeRx_eq_error_iff (y : Symbol) : (∃ x, decodeRx y = .error x) ↔ y.extractLsb' 8 2 = 3 := by
  simp only [decodeRx]
  generalize y.extractLsb' 8 2 = d
  split_ifs with h0 h1 h2
  · simp [h0]
  · simp [h1]
  · simp [h2]
  · exact iff_of_true ⟨_, rfl⟩ (by bv_omega)

/-- Settles O3: the decoder row by row, then the row that applies, then the words without one. -/
theorem decoderFollowsTheOpcodeTable : Obligations.DecoderFollowsTheOpcodeTable := by
  refine ⟨mnemonic_decode, fun f w r h => ?_, fun w => lookupRow_ne_none (decode_host w),
    fun a => lookupRow_ne_none (e := .acksym a) rfl, fun b => lookupRow_ne_none (decode_token b),
    fun y => (lookupRow_eq_none_iff (.rxsym y)).trans (decodeRx_eq_error_iff y),
    fun op => (lookupRow_eq_none_iff (.cmd op)).trans
      ((decodeCmd_eq_error_iff op).trans (commandOf_eq_none_iff op))⟩
  obtain ⟨hr, hrm, hfirst⟩ := matches_and_first_of_lookupRow h
  obtain ⟨hf, hw⟩ := matchesWord_iff.1 hrm
  exact ⟨hr, hf, hw, fun q hq hqf hqw => hfirst q hq (matchesWord_iff.2 ⟨hqf, hqw⟩)⟩

end Sys2Proof.Machine
end

section
/-! PROOFS. Commands, token classes and the data telegram (R302, R321, R330 to R334). -/

namespace Sys2Proof.Machine

open Sys2Proof

/-! ### Commands -/

/-- R302: a write of CMD depends on the value's low byte only. -/
theorem writeCmd_setWidth_valOp (v : Reg) : writeCmd ((valOp v).setWidth 32) = writeCmd v := by
  funext s
  simp [writeCmd]

/-- R302, R303: a write of CMD whose low byte decodes runs that instruction. -/
theorem exec_hostWrite_cmd {v : Reg} {i : Instr} (h : decode (.cmd (v.extractLsb' 0 8)) = .ok i) (s : State) :
    exec (.hostWrite 0x00 v) s = exec i s := by
  rw [← BitVec.setWidth_eq_extractLsb' (by decide)] at h
  calc exec (.hostWrite 0x00 v) s
      = .next (writeCmd v s) := rfl
    _ = .next (writeCmd ((valOp v).setWidth 32) s) := by rw [writeCmd_setWidth_valOp]
    _ = exec (decodeHost (cmdWord (valOp v))) s := by rw [decodeHost_cmdWord]; rfl
    _ = exec i s := exec_cmdWord h s

/-- Settles O18: the low byte decodes to the command. -/
theorem commandIsTheLowByteOfTheValue : Obligations.CommandIsTheLowByteOfTheValue := by
  intro s v
  refine ⟨fun h => ?_, fun h => ?_, fun h => ?_, fun h => ?_⟩ <;>
    exact exec_hostWrite_cmd (by rw [h]; rfl) s

/-! ### Token classes -/

/-- Settles O52: each instruction is its answer. -/
theorem tokenInstructionsAnswerTheirClass : Obligations.TokenInstructionsAnswerTheirClass := fun _ _ _ =>
  ⟨rfl, rfl, rfl, rfl⟩

/-- R332: the high bit is set from 0x80 on. -/
theorem getLsbD_seven_iff (b : Byte) : b.getLsbD 7 = true ↔ 0x80 ≤ b.toNat := by
  simpa [BitVec.msb_eq_getLsbD_last] using congrArg (· = true) (BitVec.msb_eq_decide b)

/-- R334: the five high bits are clear below 0x08. -/
theorem high_bits_eq_zero_iff (b : Byte) : b.extractLsb' 3 5 = 0 ↔ b.toNat < 0x08 := by
  rw [← BitVec.toNat_inj, BitVec.extractLsb'_toNat, Nat.shiftRight_eq_div_pow, show (0 : BitVec 5).toNat = 0 from rfl]
  omega

/-- R330: the instruction of a byte answers the byte's class. -/
theorem exec_decodeToken (b : Byte) (s : State) :
    exec (decodeToken b) s = .next (reply (.token (tokenClass b)) s) := by
  have hid : b.extractLsb' 0 7 = b.setWidth 7 := (BitVec.setWidth_eq_extractLsb' (by decide)).symm
  simp only [decodeToken, tokenClass, high_bits_eq_zero_iff, getLsbD_seven_iff, hid]
  by_cases h1 : b = 0x01
  · simp only [h1, if_true]
    rfl
  by_cases h8 : b.toNat < 0x08
  · simp only [h1, h8, show ¬ 0x80 ≤ b.toNat by omega, Nat.not_le.2 h8, if_true, if_false]
    rfl
  by_cases h80 : 0x80 ≤ b.toNat
  · simp only [h1, h8, h80, if_true, if_false]
    rfl
  · simp only [h1, h8, h80, Nat.not_lt.1 h8, if_true, if_false]
    rfl

/-- R332: 0x80 to 0xFF. -/
theorem tokenClass_assign {b : Byte} (h : 0x80 ≤ b) : tokenClass b = .assign ((b &&& 0x7F).setWidth 7) := by
  have hn : 0x80 ≤ b.toNat := h
  have h1 : b ≠ 0x01 := by rintro rfl; contradiction
  have hid : (b &&& 0x7F).setWidth 7 = b.setWidth 7 := BitVec.setWidth_and.trans (BitVec.and_allOnes)
  rw [tokenClass, if_neg h1, if_pos ((getLsbD_seven_iff b).2 hn), hid]

/-- R333: 0x08 to 0x7F. -/
theorem tokenClass_release {b : Byte} (h : 0x08 ≤ b) (h' : b ≤ 0x7F) : tokenClass b = .release (b.setWidth 7) := by
  have hn : 0x08 ≤ b.toNat := h
  have hn' : b.toNat ≤ 0x7F := h'
  have h1 : b ≠ 0x01 := by rintro rfl; contradiction
  have h7 : ¬ b.getLsbD 7 = true := by rw [getLsbD_seven_iff]; omega
  rw [tokenClass, if_neg h1, if_neg h7, if_pos hn]

/-- R334: 0x00 and 0x02 to 0x07. -/
theorem tokenClass_unknown {b : Byte} (h1 : b ≠ 0x01) (h : b.toNat ≤ 0x07) : tokenClass b = .unknown := by
  have h7 : ¬ b.getLsbD 7 = true := by rw [getLsbD_seven_iff]; omega
  rw [tokenClass, if_neg h1, if_neg h7, if_neg (by omega)]

/-- Settles O53: the instruction answers the byte's class, and the classes by their ranges of values. -/
theorem tokenClassOfEveryByte : Obligations.TokenClassOfEveryByte := by
  intro s b
  refine ⟨decodeToken b, tokenClass b, decode_token b, exec_decodeToken b s, rfl, fun h => if_pos h,
    tokenClass_assign, tokenClass_release, fun h => tokenClass_unknown ?_ ?_⟩
  · bv_omega
  · bv_omega

/-! ### Data telegrams -/

/-- R321: the fields of a telegram whose payload has at least 3 bytes. -/
theorem dataTelegram_of_fields (src d crc : Byte) {p : List Byte} (hp : 3 ≤ p.length) :
    dataTelegram ([src, d] ++ p ++ [crc]) =
      some { src := src, dst := d &&& 0x7F, readflag := d.getLsbD 7, payload := p, crc := crc } := by
  simp [dataTelegram, hp]

/-- R321: a telegram of fewer than 6 bytes has no fields. -/
theorem dataTelegram_of_short {t : List Byte} (ht : t.length < 6) : dataTelegram t = none := by
  unfold dataTelegram
  split
  · exact if_neg (by omega)
  · rfl

/-- Settles O54: the layout, and its absence. -/
theorem dataTelegramLayout : Obligations.DataTelegramLayout := fun src d crc _ _ =>
  ⟨dataTelegram_of_fields src d crc, dataTelegram_of_short⟩

end Sys2Proof.Machine
end

section
/-! PROOFS. What one byte does to a RECV (R403 to R419): the decoder's action as an operation on the state, the step
that performs it, and the receive symbols. -/

namespace Sys2Proof.Machine

open Sys2Proof

/-! ### The decoder's actions -/

/-- R403, R405: what an action of the decoder does, the byte `b` having caused it; the hunt leaves out all but the
break's. -/
def DecAction.perform (b : Byte) (a : DecAction) (s : State) : State :=
  match a with
  | .none => s
  | .append v => unlessHunting (Machine.append v) s
  | .escAnomaly => unlessHunting (Machine.escAnomaly b) s
  | .markAnomaly => unlessHunting (Machine.markAnomaly b) s
  | .break => if s.phase = .rxHunt then endHunt s else completeTelegram s

/-- R415: the decoder state has no part in the completion of the telegram. -/
theorem completeTelegram_ds_comm (d : DecState) (s : State) :
    completeTelegram { s with ds := d } = { completeTelegram s with ds := d } := by
  simp only [completeTelegram, trace_eq]
  rfl

/-- R403, R415: the break symbol ends the hunt, or completes the telegram. -/
theorem exec_s2Break (b : Byte) (s : State) :
    exec .s2Break s = .next { DecAction.break.perform b s with ds := .normal } := by
  by_cases hp : s.phase = .rxHunt
  · simp only [exec, execS2Break, DecAction.perform, hp, if_true]
    rfl
  · simp only [exec, execS2Break, DecAction.perform, hp, if_false, completeTelegram_ds_comm]

/-- R405: the instruction of the symbol formed from DS and a byte moves DS and performs the action as `decode_step`
has it. -/
theorem exec_of_decode_rxSymbol {s : State} {b : Byte} {i : Instr} (h : decode (.rxsym (rxSymbol s.ds b)) = .ok i) :
    exec i s = .next { (decodeStep s.ds b).2.perform b s with ds := (decodeStep s.ds b).1 } := by
  obtain ⟨rfl, hd⟩ | ⟨rfl, hd⟩ | ⟨rfl, hd⟩ | ⟨rfl, hd⟩ | ⟨rfl, hd⟩ | ⟨rfl, hd⟩ | ⟨rfl, hd⟩ :=
    decode_rxSymbol_cases h <;> rw [hd]
  case inr.inr.inr.inr.inr.inl => exact exec_s2Break b s
  all_goals rfl

/-- R304: every decoder state and byte form a symbol that decodes. -/
theorem exists_decode_rxSymbol (d : DecState) (b : Byte) : ∃ i, decode (.rxsym (rxSymbol d b)) = .ok i :=
  ⟨_, decodeRx_rxSymbol d b⟩

/-- R403: in the hunt every action but the break's is left out. -/
theorem DecAction.perform_of_hunt {a : DecAction} {s : State} (b : Byte) (hp : s.phase = .rxHunt) (ha : a ≠ .break) :
    a.perform b s = s := by
  cases a with
  | none => rfl
  | append | escAnomaly | markAnomaly => exact unlessHunting_of_hunt _ hp
  | _ => contradiction

/-- R404: in RX every action has its effect. -/
theorem DecAction.perform_of_rx {s : State} (b : Byte) (hp : s.phase = .rx) :
    DecAction.none.perform b s = s ∧
    (∀ v, (DecAction.append v).perform b s = Machine.append v s) ∧
    DecAction.escAnomaly.perform b s = Machine.escAnomaly b s ∧
    DecAction.markAnomaly.perform b s = Machine.markAnomaly b s ∧
    DecAction.break.perform b s = completeTelegram s := by
  simp [DecAction.perform, unlessHunting, hp]

/-- R403 to R418: what every action leaves alone. -/
@[simp] theorem DecAction.perform_fields (b : Byte) (a : DecAction) (s : State) :
    (a.perform b s).params = s.params ∧ (a.perform b s).stopreq = s.stopreq ∧ (a.perform b s).chan = s.chan ∧
    (a.perform b s).env = s.env ∧ (a.perform b s).cntTxTotal = s.cntTxTotal ∧
    (a.perform b s).cntTxFail = s.cntTxFail := by
  cases a with
  | none => simp [DecAction.perform]
  | _ =>
    simp only [DecAction.perform, unlessHunting]
    split <;> simp

/-! ### The step that reads a byte -/

/-- R403, R404: what a step in a receive phase makes of the state when it reads the byte `b`. -/
def receiveByte (b : Byte) (s : State) : State :=
  { (decodeStep s.ds b).2.perform b (rxFetched b s.seqTurn) with ds := (decodeStep s.ds b).1 }

/-- R501: the sequencer's step in a receive phase. -/
theorem step_of_receiving {s : State} (h0 : s.env.outsideTurns = 0) (hp : s.phase = .rx ∨ s.phase = .rxHunt) :
    step s = runFetched (rxTurn s.seqTurn) := by
  rw [step_of_sequencer h0]
  obtain hp | hp := hp <;> simp [sequencerTurn, hp]

/-- R304, R403, R404: a receive step that finds a byte and no stop forms its symbol. -/
theorem step_eq_run_rxSymbol {s : State} {b : Byte} {q : List Byte} (h0 : s.env.outsideTurns = 0)
    (hp : s.phase = .rx ∨ s.phase = .rxHunt) (hs : s.stopsAtRead = false) (hb : s.chan.stream = b :: q) :
    step s = runFetched (.run (.rxsym (rxSymbol s.ds b)) (rxFetched b s.seqTurn)) := by
  have hu : unboundedByte s.seqTurn = some b := by simp [unboundedByte, hb]
  have hst : s.seqTurn.stopsAtRead = false := hs
  rw [step_of_receiving h0 hp]
  simp [rxTurn, hst, hu, rxFetched]

/-- R403, R404: and runs it. -/
theorem step_eq_receiveByte {s : State} {b : Byte} {q : List Byte} (h0 : s.env.outsideTurns = 0)
    (hp : s.phase = .rx ∨ s.phase = .rxHunt) (hs : s.stopsAtRead = false) (hb : s.chan.stream = b :: q) :
    step s = .next (receiveByte b s) := by
  have hds : (rxFetched b s.seqTurn).ds = s.ds := by simp
  obtain ⟨i, hd⟩ := exists_decode_rxSymbol (rxFetched b s.seqTurn).ds b
  have hx := exec_of_decode_rxSymbol hd
  rw [hds] at hd hx
  rw [step_eq_run_rxSymbol h0 hp hs hb, runFetched_run hd, hx]
  rfl

/-- R12, R403, R404: the state in which a receive symbol runs, written out. -/
theorem rxFetched_eq {s : State} {b : Byte} {q : List Byte} (hp : s.phase = .rx ∨ s.phase = .rxHunt)
    (hb : s.chan.stream = b :: q) :
    rxFetched b s = { s with
      chan := { s.chan with stream := q, calls := s.chan.calls ++ [.rxRead .inf (.byte b)] },
      sink := if s.phase = .rx ∧ s.logmask.getLsbD 5 then s.sink ++ [(.byteTrace, .byte b)] else s.sink } := by
  obtain hp | hp := hp
  · simp [rxFetched, unlessHunting, hp, trace_eq, rxReadInf, record, logBit, hb]
  · simp [rxFetched, unlessHunting, hp, rxReadInf, record, hb]

/-- Settles O31: the symbol that the fetched byte forms is run in the fetched state. -/
theorem receiveStepReadsOneByte : Obligations.ReceiveStepReadsOneByte := by
  intro s b q h0 hp hs hb
  obtain ⟨i, hd⟩ := exists_decode_rxSymbol s.ds b
  refine ⟨i, hd, ?_⟩
  rw [step_eq_run_rxSymbol h0 hp hs hb, runFetched_run hd, rxFetched_eq (s := s.seqTurn) hp hb]
  rfl

/-! ### The command and the symbols -/

/-- Settles O21: by what RECV's acceptance says. -/
theorem recvStartsOrIsRejected : Obligations.RecvStartsOrIsRejected := by
  intro s
  have ha : s.acceptsRecv = true ↔ s.phase = .idle ∧ s.stopreq = false := by simp [State.acceptsRecv]
  refine ⟨fun h => ?_, fun h => ?_⟩
  · simp only [exec, execRecv, commandRecv, if_pos (ha.2 h), startRecv, State.mustHunt, Bool.and_eq_true,
      Bool.not_eq_true']
  · simp only [exec, execRecv, commandRecv, if_neg (mt ha.1 h), reject]

/-- Settles O26: each symbol is that update. -/
theorem escapeAndMarkerSymbols : Obligations.EscapeAndMarkerSymbols := fun _ => ⟨rfl, rfl⟩

/-- Settles O27: both symbols append their byte, and the append finds room, overflows, or finds RXOVF set. -/
theorem appendingSymbols : Obligations.AppendingSymbols := by
  intro s i v hp hi
  have hx : exec i s = .next { append v s with ds := .normal } := by
    rw [← unlessHunting_of_not_hunt (append v) (s := s) (by simp [hp])]
    obtain rfl | ⟨rfl, rfl⟩ := hi <;> rfl
  rw [hx]
  refine ⟨fun hroom => ?_, fun hfull hov => ?_, fun hfull hov => ?_⟩
  · rw [append_of_room v hroom]
  · rw [append_of_overflow v hfull hov, trace_eq]
    rfl
  · rw [append_of_full v hfull hov]

/-- Settles O28: outside the hunt each anomaly has its effect. -/
theorem anomalySymbols : Obligations.AnomalySymbols := by
  intro s b hp
  have hu (f : State → State) : unlessHunting f s = f s := unlessHunting_of_not_hunt f (by simp [hp])
  refine ⟨?_, ?_⟩
  · simp only [exec, execS1Bad, hu, escAnomaly, trace_eq]
    rfl
  · simp only [exec, execS2Bad, hu, markAnomaly, trace_eq]
    rfl

/-- Settles O29: outside the hunt the break symbol completes the telegram. -/
theorem breakSymbolCompletesTheTelegram : Obligations.BreakSymbolCompletesTheTelegram := by
  intro s hp
  simp only [exec, execS2Break, hp, reduceCtorEq, if_false, completeTelegram, trace_eq]
  rfl

/-- Settles O30: in the hunt no symbol has an effect beyond DS but the break's. -/
theorem huntSymbols : Obligations.HuntSymbols := by
  intro s b hp
  have hu (f : State → State) : unlessHunting f s = s := unlessHunting_of_hunt f hp
  refine ⟨rfl, ?_, rfl, ?_, ?_, ?_, ?_⟩
  · simp only [exec, execS0Lit, hu]
  · simp only [exec, execS1Ff, hu]
  · simp only [exec, execS1Bad, hu]
  · simp only [exec, execS2Break, hp, if_true, endHunt]
  · simp only [exec, execS2Bad, hu]

/-- Settles O32: the symbol's instruction performs `decode_step`'s action, which in RX has its effect. -/
theorem transitionsFollowDecodeStep : Obligations.TransitionsFollowDecodeStep := by
  intro s b
  refine ⟨rfl, rfl, rfl, fun hp => ?_⟩
  obtain ⟨i, hd⟩ := exists_decode_rxSymbol s.ds b
  refine ⟨i, _, hd, exec_of_decode_rxSymbol hd, rfl, ?_⟩
  obtain ⟨hnone, happend, hesc, hmark, hbreak⟩ := DecAction.perform_of_rx b hp
  obtain ⟨-, h⟩ | ⟨-, h⟩ | ⟨-, h⟩ | ⟨-, h⟩ | ⟨-, h⟩ | ⟨-, h⟩ | ⟨-, h⟩ := decode_rxSymbol_cases hd <;>
    simp only [h, hnone, happend, hesc, hmark, hbreak, completeTelegram_ds_comm]

/-! ### The end of a RECV at a read boundary -/

/-- R405: which bytes are the break, and which the anomalies. -/
theorem decodeStep_action_iff (d : DecState) (b : Byte) :
    ((decodeStep d b).2 = .break ↔ d = .marked ∧ b = 0x00) ∧
    ((decodeStep d b).2 = .escAnomaly ↔ d = .sawFF ∧ b ≠ 0x00 ∧ b ≠ 0xFF) ∧
    ((decodeStep d b).2 = .markAnomaly ↔ d = .marked ∧ b ≠ 0x00) := by
  unfold decodeStep
  cases d <;> dsimp only <;> split_ifs <;> simp_all

/-- R419: without a stop at the read boundary only the break leads out of RX and RX_HUNT. -/
theorem break_of_recv_ended {s t : State} (hr : s.phase.receives = true) (hs : s.stopsAtRead = false)
    (ht : t.phase.receives = false) (h : SequencerStep s t) :
    t.phase = .idle ∧ t.rxDone = true ∧ s.phase = .rx ∧ s.ds = .marked ∧ s.chan.stream.head? = some 0x00 := by
  cases h with
  | complete hp hb hd =>
    obtain ⟨hds, rfl⟩ := (decodeStep_action_iff _ _).1.1 (congrArg Prod.snd hd)
    exact ⟨by simp, by simp, hp, hds, hb⟩
  | abort _ hstop => simp [hs] at hstop
  | rest | decoder | huntEnd | appended | escBad | markBad => simp_all
  | cleanup hp | written hp | writeFailed hp | echoedFF hp | breakOn hp | breakWrite hp | breakOff hp
  | breakFailed hp | ackByte hp | acknowledged hp | ackFailed hp => simp [hp] at hr
  | verified hp | echoFailed hp => obtain hp | hp := hp <;> simp [hp] at hr

/-- Settles O33: the stop, the break, and the wait for a byte. -/
theorem stopEndsRecvAtReadBoundary : Obligations.StopEndsRecvAtReadBoundary := by
  intro s h0 hp
  refine ⟨fun hpar hq => ?_, fun t hpar h hrx hhunt => ?_, fun hno hempty => ?_⟩
  · have hs : s.seqTurn.stopsAtRead = true := by simp [State.stopsAtRead, hpar, hq]
    simp only [step_of_receiving h0 hp, rxTurn, hs, if_true, runFetched_done, abortRecv]
  · have hr : s.seqTurn.phase.receives = true := by obtain hp | hp := hp <;> simp [hp]
    have ht : t.phase.receives = false := by
      cases hq : t.phase <;> simp_all
    exact break_of_recv_ended (s := s.seqTurn) hr (by simp [State.stopsAtRead, hpar]) ht (sequencerStep_of_step h0 h)
  · have hs : s.seqTurn.stopsAtRead = false := by
      obtain h | h := hno <;> simp [State.stopsAtRead, h]
    have hu : unboundedByte s.seqTurn = none := by simp [unboundedByte, hempty]
    simp [step_of_receiving h0 hp, rxTurn, hs, hu]

/-! ### The counters -/

/-- R403: the hunt counts nothing. -/
theorem DecAction.perform_counters_of_hunt {s : State} (b : Byte) (a : DecAction) (hp : s.phase = .rxHunt) :
    (a.perform b s).counters = s.counters := by
  by_cases ha : a = .break
  · subst ha
    simp [DecAction.perform, hp, State.counters]
  · rw [DecAction.perform_of_hunt b hp ha]

/-- R417: an append counts the overflow that sets RXOVF, and no other. -/
theorem append_cntOvf_cases (v : Byte) (s : State) :
    ((append v s).cntOvf = s.cntOvf ∧ (append v s).rxovf = s.rxovf) ∨
      ((append v s).cntOvf = s.cntOvf.succ ∧ s.rxovf = false ∧ (append v s).rxovf = true) := by
  unfold append
  split
  · exact .inl ⟨rfl, rfl⟩
  · split
    next hov => exact .inr ⟨by simp, hov, by simp⟩
    · exact .inl ⟨rfl, rfl⟩

/-- R424: in RX each action counts its own anomaly. -/
theorem DecAction.perform_counters_of_rx {s : State} (b : Byte) (a : DecAction) (hp : s.phase = .rx) :
    (a.perform b s).cntEsc = (if a = .escAnomaly then s.cntEsc.succ else s.cntEsc) ∧
    (a.perform b s).cntMark = (if a = .markAnomaly then s.cntMark.succ else s.cntMark) ∧
    (((a.perform b s).cntOvf = s.cntOvf ∧ (a.perform b s).rxovf = s.rxovf) ∨
      ((a.perform b s).cntOvf = s.cntOvf.succ ∧ s.rxovf = false ∧ (a.perform b s).rxovf = true)) := by
  obtain ⟨hnone, happend, hesc, hmark, hbreak⟩ := DecAction.perform_of_rx b hp
  cases a with
  | append v =>
    rw [happend]
    exact ⟨by simp, by simp, append_cntOvf_cases v s⟩
  | none => simp [hnone]
  | escAnomaly => simp [hesc]
  | markAnomaly => simp [hmark]
  | _ => simp [hbreak]

/-- Settles O38: the step performs the byte's action. -/
theorem receiveStepsMoveTheirCounters : Obligations.ReceiveStepsMoveTheirCounters := by
  intro s t b q h0 hs hb h
  refine ⟨fun hp => ?_, fun hp => ?_⟩
  · rw [step_eq_receiveByte h0 (.inr hp) hs hb] at h
    cases h
    have hc := DecAction.perform_counters_of_hunt (s := rxFetched b s.seqTurn) b (decodeStep s.ds b).2 (by simp [hp])
    simpa [receiveByte, State.counters] using hc
  · rw [step_eq_receiveByte h0 (.inl hp) hs hb] at h
    cases h
    obtain ⟨hesc, hmark, hovf⟩ :=
      DecAction.perform_counters_of_rx (s := rxFetched b s.seqTurn) b (decodeStep s.ds b).2 (by simp [hp])
    simp only [decodeStep_action_iff] at hesc hmark
    refine ⟨?_, ?_, ?_, ?_, ?_⟩
    · simpa [receiveByte, Counter.succ] using hesc
    · simpa [receiveByte, Counter.succ] using hmark
    · simpa [receiveByte, Counter.succ] using hovf
    · simp [receiveByte]
    · simp [receiveByte]

end Sys2Proof.Machine
end

section
/-! PROOFS. Runs of a RECV: what it has gained after the bytes of a line event, of a telegram, of a break (R403, R421,
R422). -/

namespace Sys2Proof.Machine

open Sys2Proof

/-! ### Reading a sequence of bytes -/

/-- A step to a next state, then the run from there. -/
theorem run_succ_of_step {M : Host.Core} {s u : M.State} (h : M.step s = .next u) (k : Nat) :
    M.run (k + 1) s = M.run k u := by
  rw [Host.Core.run, h]

/-- A run goes on with the run from the state that its first part leads to. -/
theorem run_add {M : Host.Core} {j : Nat} {s t : M.State} (h : M.run j s = .next t) (k : Nat) :
    M.run (j + k) s = M.run k t := by
  induction j generalizing s with
  | zero =>
    cases h
    rw [Nat.zero_add]
  | succ j ih =>
    rw [Nat.succ_add]
    cases hu : M.step s with
    | next u =>
      rw [run_succ_of_step hu] at h ⊢
      exact ih h
    | fault r => simp [Host.Core.run, hu] at h
    | refused r => simp [Host.Core.run, hu] at h

/-- The sequencer has the next `n` turns, no stop ends a RECV, and the bytes `q` are queued. -/
structure State.Ready (s : State) (n : Nat) (q : List Byte) : Prop where
  undisturbed : s.undisturbed n
  no_stop     : s.stopsAtRead = false
  stream      : s.chan.stream = q

/-- Whether a state is ready is a matter of these fields only. -/
theorem State.Ready.of_eq {s t : State} {n : Nat} {q : List Byte} (h : s.Ready n q)
    (e : t.params = s.params ∧ t.stopreq = s.stopreq ∧ t.chan = s.chan ∧ t.env = s.env) : t.Ready n q := by
  obtain ⟨⟨h0, hl⟩, hs, hq⟩ := h
  obtain ⟨ep, es, ec, ee⟩ := e
  exact ⟨by rw [State.undisturbed, ee]; exact ⟨h0, hl⟩, by rw [State.stopsAtRead, ep, es]; exact hs,
    by rw [ec]; exact hq⟩

/-- R501: the sequencer's turn uses up one of the turns it has. -/
theorem State.undisturbed.seqTurn {s : State} {n : Nat} (h : s.undisturbed (n + 1)) : s.seqTurn.undisturbed n := by
  obtain ⟨_, later, hl⟩ := h
  rw [List.replicate_succ, List.cons_append] at hl
  exact ⟨by simp [useBurst, hl], later, by simp [useBurst, hl]⟩

/-- R403, R404: where the bytes `w` are queued and the sequencer has a turn for each, a RECV in `s` reads exactly them and
is then in `t`. -/
def ReadsTo (w : List Byte) (s t : State) : Prop :=
  ∀ n q, s.Ready (w.length + n) (w ++ q) → core.run w.length s = .next t ∧ t.Ready n q

theorem ReadsTo.refl (s : State) : ReadsTo [] s s := by
  intro n q h
  rw [List.length_nil, Nat.zero_add] at h
  exact ⟨rfl, h⟩

theorem ReadsTo.trans {w x : List Byte} {s t u : State} (h : ReadsTo w s t) (h' : ReadsTo x t u) :
    ReadsTo (w ++ x) s u := by
  intro n q hr
  rw [List.length_append, Nat.add_assoc, List.append_assoc] at hr
  obtain ⟨hrun, hr'⟩ := h _ _ hr
  rw [List.length_append, run_add hrun]
  exact h' n q hr'

/-- R403, R404: one byte is one step. -/
theorem ReadsTo.byte {s : State} (b : Byte) (hp : s.phase = .rx ∨ s.phase = .rxHunt) :
    ReadsTo [b] s (receiveByte b s) := by
  intro n q ⟨hu, hs, hb⟩
  have hstep : core.step s = .next (receiveByte b s) := step_eq_receiveByte hu.1 hp hs hb
  rw [List.length_singleton, Nat.add_comm] at hu
  refine ⟨?_, ?_⟩
  · exact run_succ_of_step hstep 0
  · have hf : (rxFetched b s.seqTurn).Ready n q :=
      ⟨by simpa [State.undisturbed] using hu.seqTurn, by simpa [State.stopsAtRead] using hs, by simp [hb]⟩
    exact hf.of_eq (by simp [receiveByte])

/-! ### What the bytes of a RECV that goes on have gained it -/

/-- Reading the bytes `w`, a RECV goes on from `s` to `t` in its phase, gains the bytes `v` where there is room for
them, and then counts nothing. -/
structure Gains (w v : List Byte) (s t : State) : Prop where
  reads   : ReadsTo w s t
  goes_on : t.phase = s.phase ∧ t.rxDone = s.rxDone ∧ t.hunted = s.hunted ∧ t.cntMark = s.cntMark
  gained  : s.rxlen.toNat + v.length ≤ 32 →
    rxTelegram t = rxTelegram s ++ v ∧ t.rxlen.toNat = s.rxlen.toNat + v.length ∧ t.rxovf = s.rxovf ∧
      t.counters = s.counters

theorem Gains.refl (s : State) : Gains [] [] s s :=
  ⟨.refl s, ⟨rfl, rfl, rfl, rfl⟩, fun _ => ⟨by simp, rfl, rfl, rfl⟩⟩

theorem Gains.trans {w x v y : List Byte} {s t u : State} (h : Gains w v s t) (h' : Gains x y t u) :
    Gains (w ++ x) (v ++ y) s u := by
  obtain ⟨hread, ⟨hp, hd, hh, hm⟩, hg⟩ := h
  obtain ⟨hread', ⟨hp', hd', hh', hm'⟩, hg'⟩ := h'
  refine ⟨hread.trans hread', ⟨hp'.trans hp, hd'.trans hd, hh'.trans hh, hm'.trans hm⟩, fun hroom => ?_⟩
  rw [List.length_append] at hroom
  obtain ⟨ht, hl, ho, hc⟩ := hg (by omega)
  obtain ⟨ht', hl', ho', hc'⟩ := hg' (by omega)
  exact ⟨by rw [ht', ht, List.append_assoc], by rw [hl', hl, List.length_append, Nat.add_assoc], ho'.trans ho,
    hc'.trans hc⟩

/-- R405: DS is `decode_step`'s. -/
@[simp] theorem receiveByte_ds (b : Byte) (s : State) : (receiveByte b s).ds = (decodeStep s.ds b).1 := rfl

/-- R403, R410, R412: a byte without an action, or in the hunt any but the break's, moves the decoder only. -/
theorem receiveByte_of_silent {s : State} {b : Byte}
    (h : (decodeStep s.ds b).2 = .none ∨ s.phase = .rxHunt ∧ (decodeStep s.ds b).2 ≠ .break) :
    receiveByte b s = { rxFetched b s.seqTurn with ds := (decodeStep s.ds b).1 } := by
  unfold receiveByte
  obtain h | ⟨hp, h⟩ := h
  · rw [h]
    rfl
  · rw [DecAction.perform_of_hunt b (by simp [hp]) h]

/-- R403, R410, R412: such a byte gains nothing. -/
theorem gains_of_silent {s : State} {b : Byte} (hp : s.phase = .rx ∨ s.phase = .rxHunt)
    (h : (decodeStep s.ds b).2 = .none ∨ s.phase = .rxHunt ∧ (decodeStep s.ds b).2 ≠ .break) :
    Gains [b] [] s (receiveByte b s) :=
  ⟨.byte b hp, by simp [receiveByte_of_silent h], fun _ => by simp [receiveByte_of_silent h, rxTelegram, State.counters]⟩

/-- R417: an append that finds room adds its byte to the telegram. -/
theorem rxTelegram_append {s : State} (v : Byte) (h : s.rxlen.toNat < 32) :
    rxTelegram (append v s) = rxTelegram s ++ [v] := by
  have hl : (s.rxlen + 1).toNat = s.rxlen.toNat + 1 := by bv_omega
  rw [append_of_room v h, rxTelegram, rxTelegram, hl]
  simp [List.take_add_one, List.take_set_of_le, h]

/-- R411, R414: in RX a byte whose action is an append gains it. -/
theorem gains_of_append {s : State} {b v : Byte} (hp : s.phase = .rx) (h : (decodeStep s.ds b).2 = .append v) :
    Gains [b] [v] s (receiveByte b s) := by
  have he : receiveByte b s = { append v (rxFetched b s.seqTurn) with ds := (decodeStep s.ds b).1 } := by
    obtain ⟨-, happend, -⟩ := DecAction.perform_of_rx (s := rxFetched b s.seqTurn) b (by simp [hp])
    rw [receiveByte, h, happend]
  refine ⟨.byte b (.inl hp), by simp [he], fun hroom => ?_⟩
  have hlt : (rxFetched b s.seqTurn).rxlen.toNat < 32 := by simpa using Nat.lt_of_succ_le hroom
  have ht : rxTelegram (receiveByte b s) = rxTelegram s ++ [v] := by
    rw [he]
    exact (rxTelegram_append v hlt).trans (by simp [rxTelegram])
  refine ⟨ht, ?_⟩
  rw [he, append_of_room v hlt]
  simp only [rxFetched_fields, seqTurn_fields, State.counters, List.length_singleton] at hlt ⊢
  exact ⟨by bv_omega, trivial, trivial⟩

/-! ### Line events -/

/-- R222, R410, R412: the first two bytes of an errored one bring the decoder to state 2. -/
theorem gains_mark {s : State} (hp : s.phase = .rx ∨ s.phase = .rxHunt) (hd : s.ds = .normal) :
    Gains [0xFF, 0x00] [] s (receiveByte 0x00 (receiveByte 0xFF s)) ∧
      (receiveByte 0x00 (receiveByte 0xFF s)).ds = .marked := by
  have h1 : Gains [0xFF] [] s (receiveByte 0xFF s) := gains_of_silent hp (by simp [hd, decodeStep])
  have hp1 : (receiveByte 0xFF s).phase = .rx ∨ (receiveByte 0xFF s).phase = .rxHunt := by rwa [h1.goes_on.1]
  have h2 := gains_of_silent (b := 0x00) hp1 (by simp [hd, decodeStep])
  exact ⟨h1.trans h2, by simp [hd, decodeStep]⟩

/-- R411, R414, R421: from decoder state 0 a byte received without error gains that byte. -/
theorem gains_good {s : State} (v : Byte) (hp : s.phase = .rx) (hd : s.ds = .normal) :
    ∃ t, Gains (mark (.good v)) [v] s t ∧ t.ds = .normal := by
  by_cases hv : v = 0xFF
  · subst hv
    have h1 : Gains [0xFF] [] s (receiveByte 0xFF s) := gains_of_silent (.inl hp) (by simp [hd, decodeStep])
    have h2 : Gains [0xFF] [0xFF] (receiveByte 0xFF s) (receiveByte 0xFF (receiveByte 0xFF s)) :=
      gains_of_append (h1.goes_on.1.trans hp) (by simp [hd, decodeStep])
    exact ⟨_, h1.trans h2, by simp [hd, decodeStep]⟩
  · rw [mark_good_of_ne hv]
    have hstep : decodeStep s.ds v = (.normal, .append v) := by rw [hd]; exact if_neg hv
    exact ⟨_, gains_of_append hp (by rw [hstep]), by rw [receiveByte_ds, hstep]⟩

/-- R421: the marked bytes of a telegram gain the telegram. -/
theorem gains_telegram (B : List Byte) {s : State} (hp : s.phase = .rx) (hd : s.ds = .normal) :
    ∃ t, Gains (markAll (B.map .good)) B s t ∧ t.ds = .normal := by
  induction B generalizing s with
  | nil => exact ⟨s, .refl s, hd⟩
  | cons v B ih =>
    obtain ⟨t, hg, ht⟩ := gains_good v hp hd
    obtain ⟨u, hg', hu⟩ := ih (hg.goes_on.1.trans hp) ht
    exact ⟨u, hg.trans hg', hu⟩

/-- R403: in the hunt a line event that is no break gains nothing. -/
theorem gains_nothing_in_hunt {e : LineEvent} {s : State} (he : e ≠ lineBreak) (hp : s.phase = .rxHunt)
    (hd : s.ds = .normal) : ∃ t, Gains (mark e) [] s t ∧ t.ds = .normal := by
  have silent {u : State} {b : Byte} (hu : u.phase = .rxHunt) (h : (decodeStep u.ds b).2 ≠ .break) :
      Gains [b] [] u (receiveByte b u) := gains_of_silent (.inr hu) (.inr ⟨hu, h⟩)
  cases e with
  | good v =>
    by_cases hv : v = 0xFF
    · subst hv
      have h1 : Gains [0xFF] [] s (receiveByte 0xFF s) := silent hp (by simp [hd, decodeStep])
      have h2 := silent (b := 0xFF) (h1.goes_on.1.trans hp) (by simp [hd, decodeStep])
      exact ⟨_, h1.trans h2, by simp [hd, decodeStep]⟩
    · rw [mark_good_of_ne hv]
      have hstep : decodeStep s.ds v = (.normal, .append v) := by rw [hd]; exact if_neg hv
      exact ⟨_, silent hp (by simp [hstep]), by rw [receiveByte_ds, hstep]⟩
  | errored x =>
    have hx : x ≠ 0x00 := fun h => he (by rw [h]; rfl)
    obtain ⟨h2, hd2⟩ := gains_mark (.inr hp) hd
    have hstep : decodeStep (receiveByte 0x00 (receiveByte 0xFF s)).ds x = (.normal, .markAnomaly) := by
      rw [hd2]; exact if_neg hx
    have h3 := silent (b := x) (h2.goes_on.1.trans hp) (by rw [hstep]; nofun)
    exact ⟨_, h2.trans h3, by rw [receiveByte_ds, hstep]⟩

/-- R403: nor do any line events without a break. -/
theorem gains_nothing_before_break {A : List LineEvent} {s : State} (hA : lineBreak ∉ A) (hp : s.phase = .rxHunt)
    (hd : s.ds = .normal) : ∃ t, Gains (markAll A) [] s t ∧ t.ds = .normal := by
  induction A generalizing s with
  | nil => exact ⟨s, .refl s, hd⟩
  | cons e A ih =>
    obtain ⟨he, hA⟩ := not_or.1 (mt List.mem_cons.2 hA)
    obtain ⟨t, hg, ht⟩ := gains_nothing_in_hunt (Ne.symm he) hp hd
    obtain ⟨u, hg', hu⟩ := ih hA (hg.goes_on.1.trans hp) ht
    exact ⟨u, hg.trans hg', hu⟩

/-! ### The break -/

/-- R403, R415, R422: RXBUF, RXLEN, RXOVF and the counters of `s` stand in `t`. -/
def BufferKept (s t : State) : Prop :=
  t.rxbuf = s.rxbuf ∧ t.rxlen = s.rxlen ∧ t.rxovf = s.rxovf ∧ t.counters = s.counters

theorem BufferKept.trans {s t u : State} (h : BufferKept s t) (h' : BufferKept t u) : BufferKept s u := by
  obtain ⟨hb, hl, ho, hc⟩ := h
  obtain ⟨hb', hl', ho', hc'⟩ := h'
  exact ⟨hb'.trans hb, hl'.trans hl, ho'.trans ho, hc'.trans hc⟩

/-- R410, R412, R415: the bytes of the break have no action but to complete the telegram or to end the hunt. -/
theorem bufferKept_of_none_or_break {s : State} {b : Byte}
    (h : (decodeStep s.ds b).2 = .none ∨ (decodeStep s.ds b).2 = .break) : BufferKept s (receiveByte b s) := by
  unfold receiveByte
  obtain h | h := h <;> rw [h]
  · simp [BufferKept, DecAction.perform, State.counters]
  · simp only [BufferKept, DecAction.perform]
    split <;> simp [State.counters]

/-- R403, R415, R422: from decoder state 0 the bytes of the break end the hunt, or complete the telegram. -/
theorem reads_break {s : State} (hp : s.phase = .rx ∨ s.phase = .rxHunt) (hd : s.ds = .normal) :
    ∃ t, ReadsTo [0xFF, 0x00, 0x00] s t ∧ t.ds = .normal ∧ BufferKept s t ∧
      (s.phase = .rx → t.phase = .idle ∧ t.rxDone = true ∧ t.hunted = s.hunted) ∧
      (s.phase = .rxHunt → t.phase = .rx ∧ t.hunted = true) := by
  obtain ⟨hmark, hd2⟩ := gains_mark hp hd
  have hkept : BufferKept s (receiveByte 0x00 (receiveByte 0xFF s)) :=
    .trans (bufferKept_of_none_or_break (.inl (by simp [hd, decodeStep])))
      (bufferKept_of_none_or_break (.inl (by simp [hd, decodeStep])))
  generalize receiveByte 0x00 (receiveByte 0xFF s) = u at hmark hd2 hkept
  obtain ⟨hphase, -, hhunted, -⟩ := hmark.goes_on
  have hstep : decodeStep u.ds 0x00 = (.normal, .break) := by rw [hd2]; rfl
  refine ⟨receiveByte 0x00 u, hmark.reads.trans (.byte 0x00 (by rwa [hphase])), by rw [receiveByte_ds, hstep],
    hkept.trans (bufferKept_of_none_or_break (.inr (by rw [hstep]))), fun hrx => ?_, fun hhunt => ?_⟩
  · rw [receiveByte, hstep]
    simp [DecAction.perform, hphase, hrx, hhunted]
  · rw [receiveByte, hstep]
    simp [DecAction.perform, hphase, hhunt]

/-- R422: from decoder state 1 the bytes `FF 00 00` are a literal 0xFF and two literal zeros. -/
theorem gains_break_bytes_of_sawFF {s : State} (hp : s.phase = .rx) (hd : s.ds = .sawFF) :
    ∃ t, Gains [0xFF, 0x00, 0x00] [0xFF, 0x00, 0x00] s t ∧ t.ds = .normal := by
  have h1 : Gains [0xFF] [0xFF] s (receiveByte 0xFF s) := gains_of_append hp (by simp [hd, decodeStep])
  obtain ⟨t, h2, ht⟩ := gains_telegram [0x00, 0x00] (h1.goes_on.1.trans hp) (by simp [hd, decodeStep])
  exact ⟨t, h1.trans h2, ht⟩

/-- R416: what a mark anomaly in RX counts and leaves. -/
theorem receiveByte_of_markAnomaly {s : State} {b : Byte} (hp : s.phase = .rx)
    (h : decodeStep s.ds b = (.normal, .markAnomaly)) :
    (receiveByte b s).phase = .rx ∧ (receiveByte b s).ds = .normal ∧ (receiveByte b s).rxDone = s.rxDone ∧
      (receiveByte b s).cntMark = s.cntMark + 1 ∧ (receiveByte b s).rxlen = s.rxlen ∧
      rxTelegram (receiveByte b s) = rxTelegram s := by
  obtain ⟨-, -, -, hmark, -⟩ := DecAction.perform_of_rx (s := rxFetched b s.seqTurn) b (by simp [hp])
  rw [receiveByte, h, hmark]
  simp [hp, rxTelegram, Counter.succ]

/-- R422: from decoder state 2 the bytes `FF 00 00` are a mark anomaly and two literal zeros. -/
theorem reads_break_bytes_of_marked {s : State} (hp : s.phase = .rx) (hd : s.ds = .marked) :
    ∃ t, ReadsTo [0xFF, 0x00, 0x00] s t ∧ t.ds = .normal ∧ t.phase = .rx ∧ t.rxDone = s.rxDone ∧
      t.cntMark = s.cntMark + 1 ∧ (s.rxlen.toNat + 2 ≤ 32 →
        t.rxlen.toNat = s.rxlen.toNat + 2 ∧ rxTelegram t = rxTelegram s ++ [0x00, 0x00]) := by
  obtain ⟨hp1, hd1, hdone1, hcnt1, hlen1, htel1⟩ :=
    receiveByte_of_markAnomaly (b := 0xFF) hp (by rw [hd]; rfl)
  obtain ⟨t, hg, ht⟩ := gains_telegram [0x00, 0x00] hp1 hd1
  obtain ⟨hphase, hdone, -, hcnt⟩ := hg.goes_on
  refine ⟨t, ReadsTo.trans (.byte 0xFF (.inl hp)) hg.reads, ht, hphase.trans hp1, hdone.trans hdone1, hcnt.trans hcnt1,
    fun hroom => ?_⟩
  obtain ⟨htel, hlen, -, -⟩ := hg.gained (by rwa [hlen1])
  exact ⟨by rw [hlen, hlen1]; rfl, by rw [htel, htel1]⟩

/-- Settles O34: by the decoder state the bytes find. -/
theorem breakIsRecognisedFromStateZero : Obligations.BreakIsRecognisedFromStateZero := by
  intro s q hu hp hs hq
  have hready : s.Ready (3 + 0) ([0xFF, 0x00, 0x00] ++ q) := ⟨hu, hs, hq⟩
  cases hd : s.ds with
  | normal =>
    obtain ⟨t, hread, ht, ⟨hbuf, hlen, hovf, -⟩, hrx, -⟩ := reads_break (.inl hp) hd
    obtain ⟨hphase, hdone, -⟩ := hrx hp
    obtain ⟨hrun, hr⟩ := hread 0 q hready
    exact ⟨t, hrun, hr.stream, ht, fun _ => ⟨hphase, hdone, hbuf, hlen, hovf⟩, nofun, nofun⟩
  | sawFF =>
    obtain ⟨t, hg, ht⟩ := gains_break_bytes_of_sawFF hp hd
    obtain ⟨hphase, hdone, -, hcnt⟩ := hg.goes_on
    obtain ⟨hrun, hr⟩ := hg.reads 0 q hready
    refine ⟨t, hrun, hr.stream, ht, nofun, fun _ => ⟨hphase.trans hp, hdone, hcnt, fun hroom => ?_⟩, nofun⟩
    obtain ⟨htel, hlen, -, -⟩ := hg.gained hroom
    exact ⟨hlen, htel⟩
  | marked =>
    obtain ⟨t, hread, ht, h⟩ := reads_break_bytes_of_marked hp hd
    obtain ⟨hrun, hr⟩ := hread 0 q hready
    exact ⟨t, hrun, hr.stream, ht, nofun, nofun, fun _ => h⟩

/-! ### Whole telegrams -/

/-- R421: from decoder state 0 with nothing buffered, the marked form of a telegram gives the telegram and ends the
RECV. -/
theorem reads_markedForm {s : State} {B : List Byte} (hB : B.length ≤ 32) (hp : s.phase = .rx) (hd : s.ds = .normal)
    (hl : s.rxlen = 0) :
    ∃ t, ReadsTo (markedForm B) s t ∧ t.phase = .idle ∧ rxTelegram t = B ∧ t.rxlen.toNat = B.length ∧
      t.rxovf = s.rxovf ∧ t.rxDone = true ∧ t.hunted = s.hunted ∧ t.ds = .normal ∧ t.counters = s.counters := by
  obtain ⟨u, hg, hu⟩ := gains_telegram B hp hd
  obtain ⟨hphase, -, hhunted, -⟩ := hg.goes_on
  obtain ⟨htel, hlen, hovf, hcnt⟩ := hg.gained (by simpa [hl] using hB)
  have hup : u.phase = .rx := hphase.trans hp
  obtain ⟨t, hread, ht, ⟨hbuf, hlen', hovf', hcnt'⟩, hrx, -⟩ := reads_break (.inl hup) hu
  obtain ⟨htp, hdone, hhunted'⟩ := hrx hup
  refine ⟨t, hg.reads.trans hread, htp, ?_, ?_, hovf'.trans hovf, hdone, hhunted'.trans hhunted, ht, hcnt'.trans hcnt⟩
  · calc rxTelegram t
        = rxTelegram u := by rw [rxTelegram, rxTelegram, hbuf, hlen']
      _ = rxTelegram s ++ B := htel
      _ = B := by simp [rxTelegram, hl]
  · rw [hlen', hlen, hl]
    simp

/-- R401, R402: a RECV accepted. -/
theorem exec_recv_of_idle {s : State} (hp : s.phase = .idle) (hq : s.stopreq = false) :
    exec .recv s = .next (startRecv s) := by
  simp [exec, execRecv, commandRecv, State.acceptsRecv, hp, hq]

/-- R402: the start of a RECV leaves what is ready. -/
theorem startRecv_ready {s : State} {n : Nat} {q : List Byte} (hu : s.undisturbed n) (hq : s.stopreq = false)
    (hs : s.chan.stream = q) : (startRecv s).Ready n q :=
  State.Ready.of_eq (s := s) ⟨hu, by simp [State.stopsAtRead, hq], hs⟩ (by simp)

/-- Settles O35: the telegram's bytes, by induction, then the break. -/
theorem decodingTheMarkedFormGivesTheTelegram : Obligations.DecodingTheMarkedFormGivesTheTelegram := by
  intro s B rest hB hp hq hm hu hs
  have hrx : (startRecv s).phase = .rx := by simp [startRecv, hm]
  obtain ⟨t, hread, hphase, htel, hlen, hovf, hdone, -, hds, hcnt⟩ := reads_markedForm hB hrx (by simp) (by simp)
  obtain ⟨hrun, hr⟩ := hread 0 rest (startRecv_ready hu hq hs)
  exact ⟨startRecv s, t, exec_recv_of_idle hp hq, hrun, hphase, htel, hlen, by simpa using hovf, hdone, hds, hr.stream,
    by simpa [State.counters] using hcnt⟩

/-- Settles O36: the line events before the break, by induction, the break, and the telegram. -/
theorem huntDiscardsUpToTheFirstBreak : Obligations.HuntDiscardsUpToTheFirstBreak := by
  intro s A B rest hB hp hq hm hA hu hs
  have hhunt : (startRecv s).phase = .rxHunt := by simp [startRecv, hm]
  obtain ⟨u, hg, hud⟩ := gains_nothing_before_break hA hhunt (by simp)
  have hup : u.phase = .rxHunt := hg.goes_on.1.trans hhunt
  obtain ⟨-, hulen, -, hucnt⟩ := hg.gained (by simp)
  obtain ⟨v, hbreak, hvd, ⟨-, hvlen, -, hvcnt⟩, -, hv⟩ := reads_break (.inr hup) hud
  obtain ⟨hvp, hvh⟩ := hv hup
  have hvl : v.rxlen = 0 := by
    rw [hvlen]
    exact BitVec.eq_of_toNat_eq (by simpa using hulen)
  obtain ⟨t, hread, hphase, htel, -, -, hdone, hhunted, hds, hcnt⟩ := reads_markedForm hB hvp hvd hvl
  have hall : ReadsTo (markAll (A ++ [lineBreak]) ++ markedForm B) (startRecv s) t := by
    rw [markAll_append]
    exact (hg.reads.trans hbreak).trans hread
  have hready := startRecv_ready hu hq hs
  rw [← List.length_append] at hready ⊢
  obtain ⟨hrun, hr⟩ := hall 0 rest hready
  have hc : t.counters = s.counters :=
    calc t.counters
      _ = v.counters := hcnt
      _ = u.counters := hvcnt
      _ = (startRecv s).counters := hucnt
      _ = s.counters := by simp [State.counters]
  exact ⟨startRecv s, t, exec_recv_of_idle hp hq, hrun, hphase, htel, hdone, hhunted.trans hvh, hds, hr.stream, hc⟩

end Sys2Proof.Machine
end

section
/-! PROOFS. The steps of an XMIT, one rule per outcome (R450 to R470): the start, the phases, the acknowledgment
symbols, the end. -/

namespace Sys2Proof.Machine

open Sys2Proof

/-! ### The start and the end -/

/-- R450: what XMIT's acceptance says. -/
theorem State.acceptsXmit_iff (s : State) :
    s.acceptsXmit = true ↔ s.phase = .idle ∧ s.stopreq = false ∧ 1 ≤ s.txlen.toNat ∧ s.txlen.toNat ≤ 32 := by
  simp only [State.acceptsXmit, Bool.and_eq_true, decide_eq_true_eq, Bool.not_eq_true', and_assoc]
  rfl

/-- R451: an XMIT accepted. -/
theorem exec_xmit_of_accepted {s : State}
    (h : s.phase = .idle ∧ s.stopreq = false ∧ 1 ≤ s.txlen.toNat ∧ s.txlen.toNat ≤ 32) :
    exec .xmit s = .next (startXmit s) := by
  simp only [exec, execXmit, commandXmit, if_pos (s.acceptsXmit_iff.2 h)]

/-- R505: an XMIT refused. -/
theorem exec_xmit_of_refused {s : State}
    (h : ¬ (s.phase = .idle ∧ s.stopreq = false ∧ 1 ≤ s.txlen.toNat ∧ s.txlen.toNat ≤ 32)) :
    exec .xmit s = .next (reject s) := by
  simp only [exec, execXmit, commandXmit, if_neg (mt s.acceptsXmit_iff.1 h)]

/-- Settles O22: by what XMIT's acceptance says. -/
theorem xmitStartsOrIsRejected : Obligations.XmitStartsOrIsRejected := fun _ =>
  ⟨exec_xmit_of_accepted, exec_xmit_of_refused⟩

/-- Settles O39: an end with `OK` neither counts nor traces, every other end does both. -/
theorem endOfXmit : Obligations.EndOfXmit := by
  intro s code
  by_cases hc : code = .ok
  · simp [finishTx, hc]
  · simp [finishTx, hc, trace_eq, logBit, Counter.succ]

/-! ### Writing a byte and reading its echo -/

/-- R452: the step in TX_WRITE. -/
theorem step_of_txWrite {s : State} {b : Byte} (h0 : s.env.outsideTurns = 0) (hp : s.phase = .txWrite)
    (hb : txByte s = some b) : step s = .next (stepTxWrite b s.seqTurn) := by
  have hb' : txByte s.seqTurn = some b := hb
  rw [step_of_sequencer h0]
  simp [sequencerTurn, withTxByte, hp, hb']

/-- R452: a byte that the transport took. -/
theorem stepTxWrite_of_ok {b : Byte} {s : State} (h : writeAnswer s = .ok) :
    stepTxWrite b s = { trace .byteTrace (.byte b) (txWrite b s) with phase := .txEcho1 } := by
  simp only [stepTxWrite, h]

/-- R452: a byte that the transport refused. -/
theorem stepTxWrite_of_fail {b : Byte} {s : State} (h : writeAnswer s = .fail) :
    stepTxWrite b s = finishTx .wrfail (trace .byteTrace (.byte b) (txWrite b s)) := by
  simp only [stepTxWrite, h]

/-- R12, R226: the write of a data byte and its trace, written out. -/
theorem trace_txWrite_eq (b : Byte) (s : State) :
    trace .byteTrace (.byte b) (txWrite b s) = { s with
      env := useWrite s.env,
      chan := { s.chan with calls := s.chan.calls ++ [.txWrite b s.chan.parity (writeAnswer s)] },
      sink := if s.logmask.getLsbD 5 then s.sink ++ [(.byteTrace, .byte b)] else s.sink } := by
  rw [trace_eq]
  rfl

/-- Settles O41: the byte is written and traced, and the answer decides. -/
theorem writeStep : Obligations.WriteStep := by
  intro s b h0 hp hb
  have hstep := step_of_txWrite h0 hp hb
  refine ⟨trace .byteTrace (.byte b) (txWrite b s.seqTurn), trace_txWrite_eq b s.seqTurn, fun hw => ?_, fun hw => ?_⟩
  · rw [hstep, stepTxWrite_of_ok hw]
  · rw [hstep, stepTxWrite_of_fail hw]

/-- R453: the step in TX_ECHO1. -/
theorem step_of_txEcho1 {s : State} {b : Byte} (h0 : s.env.outsideTurns = 0) (hp : s.phase = .txEcho1)
    (hb : txByte s = some b) : step s = .next (stepTxEcho1 b s.seqTurn) := by
  have hb' : txByte s.seqTurn = some b := hb
  rw [step_of_sequencer h0]
  simp [sequencerTurn, withTxByte, hp, hb']

/-- R453: no first echo in time. -/
theorem stepTxEcho1_of_timeout {b : Byte} {s : State} (h : boundedAnswer s = .timeout) :
    stepTxEcho1 b s = finishTx .echoTimeout (rxReadBounded .tEcho s) := by
  simp only [stepTxEcho1, h]

/-- R454: an echo that is another byte. -/
theorem stepTxEcho1_of_mismatch {b e : Byte} {s : State} (h : boundedAnswer s = .byte e) (he : e ≠ b) :
    stepTxEcho1 b s = finishTx .echoMismatch (rxReadBounded .tEcho s) := by
  simp only [stepTxEcho1, h, if_pos he]

/-- R455: the first echo of a 0xFF. -/
theorem stepTxEcho1_of_ff {s : State} (h : boundedAnswer s = .byte 0xFF) :
    stepTxEcho1 0xFF s = { rxReadBounded .tEcho s with phase := .txEcho2 } := by
  simp [stepTxEcho1, h]

/-- R457: the echo of any other byte verifies it. -/
theorem stepTxEcho1_of_match {b : Byte} {s : State} (h : boundedAnswer s = .byte b) (hb : b ≠ 0xFF) :
    stepTxEcho1 b s = byteVerified (rxReadBounded .tEcho s) := by
  simp only [stepTxEcho1, h, ne_eq, not_true_eq_false, if_false, if_neg hb]

/-- Settles O42: by the answer to the read, in the order of the checks. -/
theorem firstEchoStep : Obligations.FirstEchoStep := by
  intro s b e h0 hp hb
  rw [step_of_txEcho1 h0 hp hb]
  refine ⟨fun h => ?_, fun h he => ?_, fun h he hff => ?_, fun h he hff => ?_⟩
  · rw [stepTxEcho1_of_timeout h]
  · rw [stepTxEcho1_of_mismatch h he]
  · subst he hff
    rw [stepTxEcho1_of_ff h]
  · subst he
    rw [stepTxEcho1_of_match h hff]
    rfl

/-- R456: the step in TX_ECHO2. -/
theorem step_of_txEcho2 {s : State} (h0 : s.env.outsideTurns = 0) (hp : s.phase = .txEcho2) :
    step s = .next (stepTxEcho2 s.seqTurn) := by
  rw [step_of_sequencer h0]
  simp [sequencerTurn, hp]

/-- R456: no second echo in time. -/
theorem stepTxEcho2_of_timeout {s : State} (h : boundedAnswer s = .timeout) :
    stepTxEcho2 s = finishTx .echo2Timeout (rxReadBounded .tEcho s) := by
  simp only [stepTxEcho2, h]

/-- R456: a second echo other than 0xFF. -/
theorem stepTxEcho2_of_mismatch {e : Byte} {s : State} (h : boundedAnswer s = .byte e) (he : e ≠ 0xFF) :
    stepTxEcho2 s = finishTx .echo2Mismatch (rxReadBounded .tEcho s) := by
  simp only [stepTxEcho2, h, if_pos he]

/-- R457: the second echo verifies the 0xFF. -/
theorem stepTxEcho2_of_ff {s : State} (h : boundedAnswer s = .byte 0xFF) :
    stepTxEcho2 s = byteVerified (rxReadBounded .tEcho s) := by
  simp [stepTxEcho2, h]

/-- Settles O43: by the answer to the read. -/
theorem secondEchoStep : Obligations.SecondEchoStep := by
  intro s e h0 hp
  rw [step_of_txEcho2 h0 hp]
  refine ⟨fun h => ?_, fun h he => ?_, fun h he => ?_⟩
  · rw [stepTxEcho2_of_timeout h]
  · rw [stepTxEcho2_of_mismatch h he]
  · subst he
    rw [stepTxEcho2_of_ff h]
    rfl

/-! ### The break -/

/-- R460: the step in TX_BRK_ON. -/
theorem step_of_txBrkOn {s : State} (h0 : s.env.outsideTurns = 0) (hp : s.phase = .txBrkOn) :
    step s = .next (stepTxBrkOn s.seqTurn) := by
  rw [step_of_sequencer h0]
  simp [sequencerTurn, hp]

/-- R461: the step in TX_BRK_WR. -/
theorem step_of_txBrkWr {s : State} (h0 : s.env.outsideTurns = 0) (hp : s.phase = .txBrkWr) :
    step s = .next (stepTxBrkWr s.seqTurn) := by
  rw [step_of_sequencer h0]
  simp [sequencerTurn, hp]

/-- R462: the step in TX_BRK_OFF. -/
theorem step_of_txBrkOff {s : State} (h0 : s.env.outsideTurns = 0) (hp : s.phase = .txBrkOff) :
    step s = .next (stepTxBrkOff s.seqTurn) := by
  rw [step_of_sequencer h0]
  simp [sequencerTurn, hp]

/-- R462: after a zero byte that the transport took the acknowledgment is awaited. -/
theorem stepTxBrkOff_of_written {s : State} (h : s.brkfail = false) :
    stepTxBrkOff s = { setParity .off s with par := .off, ackpos := 0, phase := .txAck } := by
  simp [stepTxBrkOff, h]

/-- R462: after a zero byte that the transport refused the XMIT ends. -/
theorem stepTxBrkOff_of_refused {s : State} (h : s.brkfail = true) :
    stepTxBrkOff s = finishTx .brkWrfail { setParity .off s with par := .off } := by
  simp [stepTxBrkOff, h]

/-- Settles O44: phase by phase. -/
theorem breakGenerationSteps : Obligations.BreakGenerationSteps := by
  intro s h0
  refine ⟨fun hp => ?_, fun hp => ?_, fun hp hf => ?_, fun hp hf => ?_⟩
  · rw [step_of_txBrkOn h0 hp]
    rfl
  · rw [step_of_txBrkWr h0 hp]
    rfl
  · rw [step_of_txBrkOff h0 hp, stepTxBrkOff_of_written (s := s.seqTurn) hf]
    rfl
  · rw [step_of_txBrkOff h0 hp, stepTxBrkOff_of_refused (s := s.seqTurn) hf]
    rfl

/-! ### The acknowledgment -/

/-- R465: a byte of `ACK_SEQ` before the last is matched. -/
theorem ackMatched_of_ne {s : State} (h : s.ackpos ≠ 2) : ackMatched s = { s with ackpos := s.ackpos + 1 } :=
  (ackMatched_cases s).elim (fun hk => absurd hk.1 h) (·.2)

/-- R465: the last byte of `ACK_SEQ` is matched. -/
theorem ackMatched_of_eq {s : State} (h : s.ackpos = 2) : ackMatched s = finishTx .ok { s with ackpos := 3 } :=
  (ackMatched_cases s).elim (·.2) (fun hk => absurd h hk.1)

/-- Settles O45: the first three symbols match a byte of `ACK_SEQ`, the fourth ends the XMIT. -/
theorem acknowledgmentSymbols : Obligations.AcknowledgmentSymbols := by
  intro s pos a
  refine ⟨fun h => ?_, fun h => ?_, fun h => ?_, rfl⟩
  · simp [exec, execAckB0, ackMatched_of_ne, h]
  · simp [exec, execAckB1, ackMatched_of_ne, h]
  · simp only [exec, execAckB2, ackMatched_of_eq h]

/-- R305, R465: below position 3 the symbol of the expected byte matches it. -/
theorem exec_decodeAck_of_match {pos : BitVec 2} {a : Byte} (hk : pos.toNat < 3)
    (h : Config.ackSeq[pos.toNat]? = some a) (s : State) :
    exec (decodeAck (ackSymbol pos a)) s = .next (ackMatched s) := by
  have hne : decodeAck (ackSymbol pos a) ≠ .ackBad pos a := by
    rw [ne_eq, decodeAck_eq_ackBad pos a (by bv_omega)]
    exact not_not.2 h
  rw [decodeAck_ackSymbol] at hne ⊢
  split_ifs at hne ⊢
  · rfl
  · rfl
  · rfl
  · exact absurd rfl hne

/-- R465: no byte of the acknowledgment in time. -/
theorem step_of_ack_timeout {s : State} (h0 : s.env.outsideTurns = 0) (hp : s.phase = .txAck)
    (ha : boundedAnswer s.seqTurn = .timeout) :
    step s = .next (finishTx .ackTimeout (rxReadBounded .tAck s.seqTurn)) := by
  rw [step_of_sequencer h0]
  simp [sequencerTurn, ackTurn, hp, ha]

/-- R465: a byte other than the expected one. -/
theorem step_of_ack_mismatch {s : State} {a : Byte} (h0 : s.env.outsideTurns = 0) (hp : s.phase = .txAck)
    (hk : s.ackpos.toNat < 3) (ha : boundedAnswer s.seqTurn = .byte a)
    (h : Config.ackSeq[s.ackpos.toNat]? ≠ some a) :
    step s = .next (finishTx .ackMismatch (rxReadBounded .tAck s.seqTurn)) := by
  have hd : decode (.acksym (ackSymbol s.ackpos a)) = .ok (.ackBad s.ackpos a) :=
    congrArg _ ((decodeAck_eq_ackBad s.ackpos a (by bv_omega)).2 h)
  rw [step_of_ack_byte h0 hp ha, runFetched_run hd]
  rfl

/-- R465: the expected byte. -/
theorem step_of_ack_match {s : State} {a : Byte} (h0 : s.env.outsideTurns = 0) (hp : s.phase = .txAck)
    (hk : s.ackpos.toNat < 3) (ha : boundedAnswer s.seqTurn = .byte a)
    (h : Config.ackSeq[s.ackpos.toNat]? = some a) :
    step s = .next (ackMatched (rxReadBounded .tAck s.seqTurn)) := by
  have hd : decode (.acksym (ackSymbol s.ackpos a)) = .ok (decodeAck (ackSymbol s.ackpos a)) := rfl
  rw [step_of_ack_byte h0 hp ha, runFetched_run hd, exec_decodeAck_of_match hk h]

/-- Settles O46: by the answer to the read, and a matched byte by its position. -/
theorem acknowledgmentStep : Obligations.AcknowledgmentStep := by
  intro s a h0 hp hk
  refine ⟨step_of_ack_timeout h0 hp, step_of_ack_mismatch h0 hp hk, fun ha h => ⟨fun hlt => ?_, fun heq => ?_⟩⟩
  · have hne : s.ackpos ≠ 2 := by bv_omega
    rw [step_of_ack_match h0 hp hk ha h, ackMatched_of_ne (by simpa)]
    rfl
  · have h2 : s.ackpos = 2 := by bv_omega
    rw [step_of_ack_match h0 hp hk ha h, ackMatched_of_eq (by simpa), h2]
    rfl

end Sys2Proof.Machine
end

section
/-! PROOFS. The primitives of a successful XMIT (R473): what they take of the transport's answers, and what they put on
the line (R475). -/

namespace Sys2Proof.Machine

open Sys2Proof

/-- R452 to R456: the primitives of the byte `b`, two reads for a 0xFF. -/
def byteCalls (b : Byte) : List Call :=
  [.txWrite b .off .ok, .rxRead .tEcho (.byte b)] ++ if b = 0xFF then [.rxRead .tEcho (.byte 0xFF)] else []

/-- R460 to R462: the primitives of the break. -/
def breakCalls : List Call := [.setParity .even, .txWrite 0x00 .even .ok, .setParity .off]

/-- R465: the reads of the acknowledgment. -/
def ackCalls : List Call := [.rxRead .tAck (.byte 0xFF), .rxRead .tAck (.byte 0x00), .rxRead .tAck (.byte 0x00)]

/-- R473: the bytes, the break, the acknowledgment. -/
theorem xmitCalls_eq (T : List Byte) : xmitCalls T = T.flatMap byteCalls ++ (breakCalls ++ ackCalls) := rfl

/-- R220: the transport's answer that a primitive took for its write. -/
def Call.answered : Call → Option Answer
  | .txWrite _ _ a => some a
  | .rxRead _ _ => none
  | .setParity _ => none
  | .openPort _ => none
  | .closePort => none

/-- R224: the byte of the marked stream that a primitive took for its read. -/
def Call.delivered : Call → Option Byte
  | .rxRead _ (.byte b) => some b
  | .rxRead _ .timeout => none
  | .txWrite _ _ _ => none
  | .setParity _ => none
  | .openPort _ => none
  | .closePort => none

/-! ### The primitives of one byte -/

theorem length_byteCalls (b : Byte) : (byteCalls b).length = 2 + if b = 0xFF then 1 else 0 := by
  unfold byteCalls
  split <;> rfl

theorem answered_byteCalls (b : Byte) : (byteCalls b).filterMap Call.answered = [.ok] := by
  unfold byteCalls
  split <;> rfl

/-- R222: the reads of a byte's echo are those of its marked form. -/
theorem delivered_byteCalls (b : Byte) : (byteCalls b).filterMap Call.delivered = mark (.good b) := by
  unfold byteCalls
  split
  next h =>
    subst h
    rfl
  next h => exact (mark_good_of_ne h).symm

theorem lineOf_byteCalls (b : Byte) : lineOf (byteCalls b) = [(b, .off)] := by
  unfold byteCalls
  split <;> rfl

/-- R226: the line sees the primitives in their order. -/
theorem lineOf_append (cs cs' : List Call) : lineOf (cs ++ cs') = lineOf cs ++ lineOf cs' := List.filterMap_append

/-! ### The primitives of a telegram -/

/-- R473: each step is one primitive. -/
theorem length_xmitCalls (T : List Byte) : (xmitCalls T).length = 2 * T.length + T.count 0xFF + 6 := by
  have hdata : (T.flatMap byteCalls).length = 2 * T.length + T.count 0xFF := by
    induction T with
    | nil => rfl
    | cons b T ih =>
      rw [List.flatMap_cons, List.length_append, ih, length_byteCalls, List.length_cons, List.count_cons]
      simp only [beq_iff_eq]
      omega
  rw [xmitCalls_eq, List.length_append, hdata]
  rfl

theorem answered_xmitCalls (T : List Byte) :
    (xmitCalls T).filterMap Call.answered = List.replicate (T.length + 1) .ok := by
  have hdata : (T.flatMap byteCalls).filterMap Call.answered = List.replicate T.length .ok := by
    induction T with
    | nil => rfl
    | cons b T ih =>
      rw [List.flatMap_cons, List.filterMap_append, ih, answered_byteCalls]
      rfl
  rw [xmitCalls_eq, List.filterMap_append, hdata, List.replicate_succ']
  rfl

/-- R323, R473: the reads of a successful XMIT are those of the marked form. -/
theorem delivered_xmitCalls (T : List Byte) : (xmitCalls T).filterMap Call.delivered = markedForm T := by
  have hdata : (T.flatMap byteCalls).filterMap Call.delivered = markAll (T.map .good) := by
    induction T with
    | nil => rfl
    | cons b T ih =>
      rw [List.flatMap_cons, List.filterMap_append, ih, delivered_byteCalls]
      rfl
  rw [xmitCalls_eq, List.filterMap_append, hdata]
  rfl

/-- R221, R475: a successful XMIT puts the line form on the line. -/
theorem lineOf_xmitCalls (T : List Byte) : lineOf (xmitCalls T) = lineForm T := by
  have hdata : lineOf (T.flatMap byteCalls) = T.map (·, .off) := by
    induction T with
    | nil => rfl
    | cons b T ih =>
      rw [List.flatMap_cons, lineOf_append, ih, lineOf_byteCalls]
      rfl
  rw [xmitCalls_eq, lineOf_append, hdata]
  rfl

/-- R222, R475: the far end sees the bytes of the line form as good and its last as the break. -/
theorem map_receivedAs_lineForm (T : List Byte) : (lineForm T).map receivedAs = T.map .good ++ [lineBreak] := by
  rw [lineForm, List.map_append, List.map_map]
  rfl

/-- Settles O49: the line form, and its events marked. -/
theorem lineFormOfAnXmitIsMarkedBack : Obligations.LineFormOfAnXmitIsMarkedBack := by
  intro T
  refine ⟨lineOf_xmitCalls T, ?_⟩
  rw [lineOf_xmitCalls, map_receivedAs_lineForm, markedForm_eq]

end Sys2Proof.Machine
end

section
/-! PROOFS. The run of a successful XMIT on a bus that answers as it should (R473): the primitives a run performs, in
order, while the transport's answers to them are those that come next. -/

namespace Sys2Proof.Machine

open Sys2Proof

/-! ### The transport's answers ahead -/

/-- R501: the sequencer's turn leaves the answers of the writes. -/
theorem useBurst_writes (e : Env) : (useBurst e).writes = e.writes := by
  unfold useBurst
  split <;> rfl

/-- R501: the sequencer's turn leaves the draws of the bounded waits. -/
theorem useBurst_timeouts (e : Env) : (useBurst e).timeouts = e.timeouts := by
  unfold useBurst
  split <;> rfl

/-- R220: the answer that the tape names is the next write's. -/
theorem writeAnswer_of_cons {s : State} {a : Answer} {w : List Answer} (h : s.env.writes = a :: w) :
    writeAnswer s = a := by
  simp only [writeAnswer, h]

/-- R220: and is then used. -/
theorem useWrite_of_cons {e : Env} {a : Answer} {w : List Answer} (h : e.writes = a :: w) :
    useWrite e = { e with writes := w } := by
  simp only [useWrite, h]

/-- R14: the draw that the tape names is used by the next bounded wait. -/
theorem useTimeout_of_cons {e : Env} {d : Bool} {o : List Bool} (h : e.timeouts = d :: o) :
    useTimeout e = { e with timeouts := o } := by
  simp only [useTimeout, h]

/-- The sequencer has a turn for each of the primitives `cs`, the transport's next answers are the ones recorded in
`cs`, and after the bytes that `cs` reads the bytes `q` are queued. -/
structure State.Supplied (s : State) (cs : List Call) (q : List Byte) : Prop where
  undisturbed : s.undisturbed cs.length
  writes      : ∃ w, s.env.writes = cs.filterMap Call.answered ++ w
  no_timeout  : ∃ o, s.env.timeouts = List.replicate (cs.filterMap Call.delivered).length false ++ o
  stream      : s.chan.stream = cs.filterMap Call.delivered ++ q

/-- What is supplied is a matter of these fields only. -/
theorem State.Supplied.of_eq {s t : State} {cs : List Call} {q : List Byte} (h : s.Supplied cs q)
    (hc : t.chan.stream = s.chan.stream) (he : t.env = s.env) : t.Supplied cs q := by
  obtain ⟨hu, hw, ho, hq⟩ := h
  exact ⟨by rwa [State.undisturbed, he], by rwa [he], by rwa [he], by rwa [hc]⟩

/-- R226: a write supplied with an answer gets it. -/
theorem State.Supplied.write {s : State} {b : Byte} {p : Parity} {a : Answer} {cs : List Call} {q : List Byte}
    (h : s.Supplied (.txWrite b p a :: cs) q) :
    writeAnswer s.seqTurn = a ∧ (txWrite b s.seqTurn).Supplied cs q := by
  obtain ⟨hu, ⟨w, hw⟩, ⟨o, ho⟩, hq⟩ := h
  have hw' : s.seqTurn.env.writes = a :: (cs.filterMap Call.answered ++ w) := (useBurst_writes _).trans hw
  have henv : (txWrite b s.seqTurn).env = { s.seqTurn.env with writes := cs.filterMap Call.answered ++ w } :=
    useWrite_of_cons hw'
  refine ⟨writeAnswer_of_cons hw', ?_, ⟨w, by rw [henv]⟩, ⟨o, ?_⟩, hq⟩
  · rw [State.undisturbed, henv]
    exact hu.seqTurn
  · rw [henv]
    exact (useBurst_timeouts _).trans ho

/-- R224: a bounded read supplied with a byte returns it. -/
theorem State.Supplied.read {s : State} {k : Bound} {b : Byte} {cs : List Call} {q : List Byte}
    (h : s.Supplied (.rxRead k (.byte b) :: cs) q) :
    boundedAnswer s.seqTurn = .byte b ∧ (rxReadBounded k s.seqTurn).Supplied cs q := by
  obtain ⟨hu, ⟨w, hw⟩, ⟨o, ho⟩, hq⟩ := h
  have hd : timeoutDrawn s.seqTurn = false := timeoutDrawn_seqTurn ho
  obtain ⟨ha, hr⟩ := boundedRead_of_byte k (s := s.seqTurn) hq hd
  have hstream : (rxReadBounded k s.seqTurn).chan.stream = cs.filterMap Call.delivered ++ q := by
    rw [hr]
    rfl
  have ho' : s.seqTurn.env.timeouts = false :: (List.replicate (cs.filterMap Call.delivered).length false ++ o) :=
    (useBurst_timeouts _).trans ho
  have henv : (rxReadBounded k s.seqTurn).env =
      { s.seqTurn.env with timeouts := List.replicate (cs.filterMap Call.delivered).length false ++ o } := by
    rw [hr]
    exact useTimeout_of_cons ho'
  refine ⟨ha, ?_, ⟨w, ?_⟩, ⟨o, by rw [henv]⟩, hstream⟩
  · rw [State.undisturbed, henv]
    exact hu.seqTurn
  · rw [henv]
    exact (useBurst_writes _).trans hw

/-- R227: a change of parity takes no answer. -/
theorem State.Supplied.setParity {s : State} {m : Parity} {cs : List Call} {q : List Byte}
    (h : s.Supplied (.setParity m :: cs) q) : (Machine.setParity m s.seqTurn).Supplied cs q := by
  obtain ⟨hu, ⟨w, hw⟩, ⟨o, ho⟩, hq⟩ := h
  exact ⟨hu.seqTurn, ⟨w, (useBurst_writes _).trans hw⟩, ⟨o, (useBurst_timeouts _).trans ho⟩, hq⟩

/-! ### Performing a list of primitives -/

/-- R476, R711: the telegram and the transmit counters of `s` stand in `t`. -/
def TelegramKept (s t : State) : Prop :=
  t.txbuf = s.txbuf ∧ t.txlen = s.txlen ∧ t.cntTxTotal = s.cntTxTotal ∧ t.cntTxFail = s.cntTxFail

theorem TelegramKept.trans {s t u : State} (h : TelegramKept s t) (h' : TelegramKept t u) : TelegramKept s u := by
  obtain ⟨hb, hl, ht, hf⟩ := h
  obtain ⟨hb', hl', ht', hf'⟩ := h'
  exact ⟨hb'.trans hb, hl'.trans hl, ht'.trans ht, hf'.trans hf⟩

/-- R473: where `s` is supplied for them, the sequencer's steps from `s` perform exactly the primitives `cs`, one each,
and lead to `t`. -/
structure Performs (cs : List Call) (s t : State) : Prop where
  runs : ∀ cs' q, s.Supplied (cs ++ cs') q →
    core.run cs.length s = .next t ∧ t.Supplied cs' q ∧ t.chan.calls = s.chan.calls ++ cs
  kept : TelegramKept s t

theorem Performs.refl (s : State) : Performs [] s s :=
  ⟨fun _ _ h => ⟨rfl, h, (List.append_nil _).symm⟩, rfl, rfl, rfl, rfl⟩

theorem Performs.trans {cs ds : List Call} {s t u : State} (h : Performs cs s t) (h' : Performs ds t u) :
    Performs (cs ++ ds) s u := by
  refine ⟨fun cs' q hs => ?_, h.kept.trans h'.kept⟩
  rw [List.append_assoc] at hs
  obtain ⟨hrun, ht, hc⟩ := h.runs _ _ hs
  obtain ⟨hrun', hu, hc'⟩ := h'.runs _ _ ht
  rw [List.length_append, run_add hrun]
  exact ⟨hrun', hu, by rw [hc', hc, List.append_assoc]⟩

/-- A step that performs one primitive. -/
theorem Performs.single {c : Call} {s t : State} (hk : TelegramKept s t)
    (h : ∀ cs q, s.Supplied (c :: cs) q → step s = .next t ∧ t.Supplied cs q ∧ t.chan.calls = s.chan.calls ++ [c]) :
    Performs [c] s t := by
  refine ⟨fun cs q hs => ?_, hk⟩
  obtain ⟨hstep, ht⟩ := h cs q hs
  exact ⟨run_succ_of_step (M := core) hstep 0, ht⟩

/-- R226: a step that performs a write. -/
theorem Performs.write {b : Byte} {s t : State} (hk : TelegramKept s t)
    (ht : t.chan = (txWrite b s.seqTurn).chan ∧ t.env = (txWrite b s.seqTurn).env)
    (hstep : s.env.outsideTurns = 0 → writeAnswer s.seqTurn = .ok → step s = .next t) :
    Performs [.txWrite b s.chan.parity .ok] s t := by
  refine .single hk fun cs q hs => ?_
  obtain ⟨ha, hu⟩ := hs.write
  exact ⟨hstep hs.undisturbed.1 ha, hu.of_eq (by rw [ht.1]) ht.2, by rw [ht.1]; simp [ha]⟩

/-- R224: a step that performs a bounded read. -/
theorem Performs.read {k : Bound} {b : Byte} {s t : State} (hk : TelegramKept s t)
    (ht : t.chan = (rxReadBounded k s.seqTurn).chan ∧ t.env = (rxReadBounded k s.seqTurn).env)
    (hstep : s.env.outsideTurns = 0 → boundedAnswer s.seqTurn = .byte b → step s = .next t) :
    Performs [.rxRead k (.byte b)] s t := by
  refine .single hk fun cs q hs => ?_
  obtain ⟨ha, hu⟩ := hs.read
  exact ⟨hstep hs.undisturbed.1 ha, hu.of_eq (by rw [ht.1]) ht.2, by rw [ht.1]; simp [ha]⟩

/-- R227: a step that changes the parity. -/
theorem Performs.setParity {m : Parity} {s t : State} (hk : TelegramKept s t)
    (ht : t.chan = (Machine.setParity m s.seqTurn).chan ∧ t.env = (Machine.setParity m s.seqTurn).env)
    (hstep : s.env.outsideTurns = 0 → step s = .next t) : Performs [.setParity m] s t := by
  refine .single hk fun cs q hs => ?_
  exact ⟨hstep hs.undisturbed.1, hs.setParity.of_eq (by rw [ht.1]) ht.2, by rw [ht.1]; simp⟩

/-! ### The telegram -/

/-- R457: the phase after a verified byte. -/
theorem byteVerified_phase_eq (s : State) :
    (byteVerified s).phase = if (s.txidx + 1).toNat < s.txlen.toNat then .txWrite else .txBrkOn := rfl

/-- R452 to R457: an XMIT between two bytes of the telegram, with `bs` still to be sent. -/
structure State.Sending (s : State) (bs : List Byte) : Prop where
  phase  : s.phase = if bs = [] then .txBrkOn else .txWrite
  unsent : (txTelegram s).drop s.txidx.toNat = bs
  length : s.txidx.toNat + bs.length = s.txlen.toNat
  count  : s.txcnt = s.txidx
  parity : s.chan.parity = .off

/-- R452: the next byte to be sent is the first of those still to be sent. -/
theorem State.Sending.txByte_eq {s : State} {b : Byte} {bs : List Byte} (h : s.Sending (b :: bs)) :
    txByte s = some b := by
  have hb : (txTelegram s)[s.txidx.toNat]? = some b := by rw [← List.head?_drop, h.unsent, List.head?_cons]
  have hlt : s.txidx.toNat < s.txlen.toNat := by
    have := h.length
    rw [List.length_cons] at this
    omega
  rw [txTelegram, List.getElem?_take_of_lt hlt] at hb
  simpa [txByte] using hb

/-- R454 to R457: the write and the echo of one byte, by whether it is a 0xFF. -/
theorem performs_byteCalls {s : State} {b : Byte} (hp : s.phase = .txWrite) (hb : txByte s = some b)
    (hpar : s.chan.parity = .off) :
    ∃ t, Performs (byteCalls b) s t ∧ t.phase = (byteVerified s).phase ∧ t.txidx = s.txidx + 1 ∧ t.txcnt = s.txcnt + 1 ∧
      t.chan.parity = .off := by
  have hwrite : Performs [.txWrite b s.chan.parity .ok] s
      { trace .byteTrace (.byte b) (txWrite b s.seqTurn) with phase := .txEcho1 } :=
    .write (by simp [TelegramKept]) (by simp) fun h0 ha => by rw [step_of_txWrite h0 hp hb, stepTxWrite_of_ok ha]
  rw [hpar] at hwrite
  generalize hu : ({ trace .byteTrace (.byte b) (txWrite b s.seqTurn) with phase := .txEcho1 } : State) = u at hwrite
  have hup : u.phase = .txEcho1 := by rw [← hu]
  have hub : txByte u = some b := by rw [← hb, ← hu]; simp [txByte]
  by_cases hff : b = 0xFF
  · subst hff
    have hecho : Performs [.rxRead .tEcho (.byte 0xFF)] u { rxReadBounded .tEcho u.seqTurn with phase := .txEcho2 } :=
      .read (by simp [TelegramKept]) (by simp) fun h0 ha => by rw [step_of_txEcho1 h0 hup hub, stepTxEcho1_of_ff ha]
    generalize hv : ({ rxReadBounded .tEcho u.seqTurn with phase := .txEcho2 } : State) = v at hecho
    have hvp : v.phase = .txEcho2 := by rw [← hv]
    have hecho2 : Performs [.rxRead .tEcho (.byte 0xFF)] v (byteVerified (rxReadBounded .tEcho v.seqTurn)) :=
      .read (by simp [TelegramKept]) (by simp) fun h0 ha => by rw [step_of_txEcho2 h0 hvp, stepTxEcho2_of_ff ha]
    refine ⟨_, (hwrite.trans hecho).trans hecho2, ?_⟩
    simp [byteVerified_phase_eq, ← hv, ← hu, hpar]
  · have hecho : Performs [.rxRead .tEcho (.byte b)] u (byteVerified (rxReadBounded .tEcho u.seqTurn)) :=
      .read (by simp [TelegramKept]) (by simp) fun h0 ha => by
        rw [step_of_txEcho1 h0 hup hub, stepTxEcho1_of_match ha hff]
    have hcalls : byteCalls b = [.txWrite b .off .ok, .rxRead .tEcho (.byte b)] := by
      rw [byteCalls, if_neg hff, List.append_nil]
    rw [hcalls]
    refine ⟨_, hwrite.trans hecho, ?_⟩
    simp [byteVerified_phase_eq, ← hu, hpar]

/-- R457: one byte of those still to be sent. -/
theorem State.Sending.byte {s : State} {b : Byte} {bs : List Byte} (h : s.Sending (b :: bs)) :
    ∃ t, Performs (byteCalls b) s t ∧ t.Sending bs := by
  obtain ⟨t, hperf, htp, hti, htc, htpar⟩ := performs_byteCalls h.phase h.txByte_eq h.parity
  obtain ⟨hbuf, hlen, -, -⟩ := hperf.kept
  have hl := h.length
  rw [List.length_cons] at hl
  have hi : t.txidx.toNat = s.txidx.toNat + 1 := by
    rw [hti]
    bv_omega
  refine ⟨t, hperf, ?_, ?_, by rw [hi, hlen]; omega, by rw [htc, hti, h.count], htpar⟩
  · rw [htp, byteVerified_phase_eq, ← hti, hi]
    cases bs with
    | nil => exact if_neg (by rw [← hl]; exact Nat.lt_irrefl _)
    | cons => exact if_pos (by rw [List.length_cons] at hl; omega)
  · calc (txTelegram t).drop t.txidx.toNat
      _ = (txTelegram s).drop (s.txidx.toNat + 1) := by rw [hi, txTelegram, txTelegram, hbuf, hlen]
      _ = ((txTelegram s).drop s.txidx.toNat).tail := List.tail_drop.symm
      _ = bs := by rw [h.unsent, List.tail_cons]

/-- R452 to R457: all the bytes still to be sent. -/
theorem State.Sending.telegram {bs : List Byte} {s : State} (h : s.Sending bs) :
    ∃ t, Performs (bs.flatMap byteCalls) s t ∧ t.Sending [] := by
  induction bs generalizing s with
  | nil => exact ⟨s, .refl s, h⟩
  | cons b bs ih =>
    obtain ⟨t, hperf, ht⟩ := h.byte
    obtain ⟨u, hperf', hu⟩ := ih ht
    exact ⟨u, hperf.trans hperf', hu⟩

/-! ### The break and the acknowledgment -/

/-- R460 to R462: the break on a transport that takes its zero byte. -/
theorem performs_breakCalls {s : State} (hp : s.phase = .txBrkOn) :
    ∃ t, Performs breakCalls s t ∧ t.phase = .txAck ∧ t.ackpos = 0 ∧ t.par = .off ∧ t.txcnt = s.txcnt := by
  have hon : Performs [.setParity .even] s (stepTxBrkOn s.seqTurn) :=
    .setParity (by simp [TelegramKept, stepTxBrkOn]) ⟨rfl, rfl⟩ fun h0 => step_of_txBrkOn h0 hp
  generalize hu : stepTxBrkOn s.seqTurn = u at hon
  have hup : u.phase = .txBrkWr := by rw [← hu]; rfl
  have hwrite : Performs [.txWrite 0x00 u.chan.parity .ok] u
      { txWrite 0x00 u.seqTurn with brkfail := false, phase := .txBrkOff } :=
    .write (by simp [TelegramKept]) ⟨rfl, rfl⟩ fun h0 ha => by simp [step_of_txBrkWr h0 hup, stepTxBrkWr, ha]
  have hpar : u.chan.parity = .even := by rw [← hu]; rfl
  rw [hpar] at hwrite
  generalize hv : ({ txWrite 0x00 u.seqTurn with brkfail := false, phase := .txBrkOff } : State) = v at hwrite
  have hvp : v.phase = .txBrkOff := by rw [← hv]
  have hvf : v.brkfail = false := by rw [← hv]
  have hoff : Performs [.setParity .off] v
      { setParity .off v.seqTurn with par := .off, ackpos := 0, phase := .txAck } :=
    .setParity (by simp [TelegramKept]) ⟨rfl, rfl⟩ fun h0 => by
      rw [step_of_txBrkOff h0 hvp, stepTxBrkOff_of_written (s := v.seqTurn) hvf]
  refine ⟨_, (hon.trans hwrite).trans hoff, rfl, rfl, rfl, ?_⟩
  simp [← hv, ← hu, stepTxBrkOn]

/-- R465: one expected byte of the acknowledgment. -/
theorem performs_ackByte {s : State} {a : Byte} (hp : s.phase = .txAck) (hk : s.ackpos.toNat < 3)
    (h : Config.ackSeq[s.ackpos.toNat]? = some a) :
    Performs [.rxRead .tAck (.byte a)] s (ackMatched (rxReadBounded .tAck s.seqTurn)) := by
  obtain ⟨_, hm⟩ | ⟨_, hm⟩ := ackMatched_cases (rxReadBounded .tAck s.seqTurn) <;>
    exact .read (by simp [hm, TelegramKept]) (by simp [hm]) fun h0 ha => step_of_ack_match h0 hp hk ha h

/-- R465: the acknowledgment, read from its first byte. -/
theorem performs_ackCalls {s : State} (hp : s.phase = .txAck) (hk : s.ackpos = 0) :
    ∃ t, Performs ackCalls s t ∧ t.phase = .idle ∧ t.txcode = .ok ∧ t.txDone = true ∧ t.ackpos = 3 ∧ t.par = s.par ∧
      t.txcnt = s.txcnt := by
  have h1 : Performs [.rxRead .tAck (.byte 0xFF)] s _ := performs_ackByte hp (by simp [hk]) (by rw [hk]; rfl)
  rw [ackMatched_of_ne (by simp [hk])] at h1
  generalize hu : ({ rxReadBounded .tAck s.seqTurn with
    ackpos := (rxReadBounded .tAck s.seqTurn).ackpos + 1 } : State) = u at h1
  have hup : u.phase = .txAck := by rw [← hu]; exact hp
  have huk : u.ackpos = 1 := by rw [← hu]; simp [hk]
  have h2 : Performs [.rxRead .tAck (.byte 0x00)] u _ := performs_ackByte hup (by simp [huk]) (by rw [huk]; rfl)
  rw [ackMatched_of_ne (by simp [huk])] at h2
  generalize hv : ({ rxReadBounded .tAck u.seqTurn with
    ackpos := (rxReadBounded .tAck u.seqTurn).ackpos + 1 } : State) = v at h2
  have hvp : v.phase = .txAck := by rw [← hv]; exact hup
  have hvk : v.ackpos = 2 := by rw [← hv]; simp [huk]
  have h3 : Performs [.rxRead .tAck (.byte 0x00)] v _ := performs_ackByte hvp (by simp [hvk]) (by rw [hvk]; rfl)
  rw [ackMatched_of_eq (by simp [hvk])] at h3
  refine ⟨_, (h1.trans h2).trans h3, ?_⟩
  simp [← hv, ← hu]

/-! ### The whole XMIT -/

/-- R450, R451: after its start an XMIT has its whole telegram to send. -/
theorem startXmit_sending {s : State} (h : s.Inv) (hp : s.phase = .idle) (hlen : 1 ≤ s.txlen.toNat)
    (hmax : s.txlen.toNat ≤ 32) : (startXmit s).Sending (txTelegram s) := by
  have hl : (txTelegram s).length = s.txlen.toNat := by simp [txTelegram, hmax]
  have hne : txTelegram s ≠ [] := List.ne_nil_of_length_pos (by omega)
  have hpar : s.par = .off := h.chan.par_off (by simp [hp])
  refine ⟨by simp [hne], ?_, by simp [hl], by simp, by simp [h.chan.chan_parity, hpar]⟩
  simp [txTelegram]

/-- R452 to R465: an XMIT that is supplied for a success has it. -/
theorem State.Sending.xmit {T : List Byte} {s : State} (h : s.Sending T) :
    ∃ t, Performs (xmitCalls T) s t ∧ t.phase = .idle ∧ t.txcode = .ok ∧ t.txDone = true ∧ t.txcnt = s.txlen ∧
      t.ackpos = 3 ∧ t.par = .off := by
  obtain ⟨u, hdata, hu⟩ := h.telegram
  obtain ⟨v, hbreak, hvp, hvk, hvpar, hvcnt⟩ := performs_breakCalls hu.phase
  obtain ⟨t, hack, htp, htcode, htdone, htk, htpar, htcnt⟩ := performs_ackCalls hvp hvk
  have hcnt : u.txcnt = s.txlen := by
    obtain ⟨-, hlen, -, -⟩ := hdata.kept
    rw [hu.count, ← hlen]
    exact BitVec.eq_of_toNat_eq hu.length
  exact ⟨t, hdata.trans (hbreak.trans hack), htp, htcode, htdone, by rw [htcnt, hvcnt, hcnt], htk, by rw [htpar, hvpar]⟩

/-- Settles O48: the telegram's bytes, by induction, then the break and the acknowledgment. -/
theorem successfulXmitIssuesItsPrimitivesInOrder : Obligations.SuccessfulXmitIssuesItsPrimitivesInOrder := by
  intro s T rest w o hinv hp hstop hlen hmax hT hu hw ho hq
  subst hT
  obtain ⟨t, hperf, htp, htcode, htdone, htcnt, htk, htpar⟩ := (startXmit_sending hinv hp hlen hmax).xmit
  have hsupplied : (startXmit s).Supplied (xmitCalls (txTelegram s) ++ []) rest := by
    rw [List.append_nil]
    exact ⟨by rw [length_xmitCalls]; exact hu, ⟨w, by rw [answered_xmitCalls]; exact hw⟩,
      ⟨o, by rw [delivered_xmitCalls]; exact ho⟩, by rw [delivered_xmitCalls]; exact hq⟩
  obtain ⟨hrun, hend, hcalls⟩ := hperf.runs _ _ hsupplied
  rw [length_xmitCalls] at hrun
  obtain ⟨-, -, htotal, hfail⟩ := hperf.kept
  exact ⟨startXmit s, t, exec_xmit_of_accepted ⟨hp, hstop, hlen, hmax⟩, hrun, hcalls, hend.stream, htp, htcode, htdone,
    htcnt, htk, htpar, htotal, hfail⟩

end Sys2Proof.Machine
end

section
/-! PROOFS. The end of an XMIT, by its code (R472), and the transmit counters over every step (R476). -/

namespace Sys2Proof.Machine

open Sys2Proof

/-! ### The end, by its code -/

/-- R452 to R470: an XMIT ends by `finish_tx`, with a code that says in which of its parts the end was found. -/
theorem SequencerStep.xmit_ended {s t : State} (h : SequencerStep s t) (hs : s.phase.txBusy = true)
    (ht : t.phase.txBusy = false) :
    ∃ (code : TxCode) (r : State), t = finishTx code r ∧ r.txlen = s.txlen ∧ r.txcnt = s.txcnt ∧
      ((s.phase.sendsData = false ∧ code = .ok ∧ r.ackpos = 3) ∨
       (s.phase.sendsData = true ∧ code ∈ [.wrfail, .echoTimeout, .echoMismatch, .echo2Timeout, .echo2Mismatch]) ∨
       (s.phase.sendsData = false ∧ code ∈ [.brkWrfail, .ackTimeout, .ackMismatch])) := by
  cases h with
  | rest => simp [hs] at ht
  | cleanup hp | huntEnd hp | appended hp | escBad hp | markBad hp | complete hp => simp [hp] at hs
  | abort hp | decoder hp =>
    revert hs hp
    cases s.phase <;> simp
  | written | echoedFF | breakOn | breakWrite | breakOff => simp at ht
  | verified =>
    rw [byteVerified_phase_eq] at ht
    split at ht <;> simp at ht
  | ackByte => simp [hs] at ht
  | writeFailed hp | breakFailed hp | acknowledged hp => exact ⟨_, _, rfl, by simp [hp]⟩
  | echoFailed hp code hc =>
    have hd : s.phase.sendsData = true := by obtain hp | hp := hp <;> simp [hp]
    exact ⟨code, _, rfl, by simp, by simp, .inr (.inl ⟨hd, List.mem_cons_of_mem _ hc⟩)⟩
  | ackFailed hp code hc =>
    exact ⟨code, _, rfl, by simp, by simp, .inr (.inr ⟨by simp [hp], List.mem_cons_of_mem _ hc⟩)⟩

/-- R505, R611: a turn of the outside does not end an XMIT. -/
theorem txBusy_of_outside_step {s t : State} (h0 : s.env.outsideTurns ≠ 0) (h : step s = .next t)
    (hs : s.txBusy = true) : t.txBusy = true := by
  obtain ⟨-, hcmd, -⟩ := outsideLeavesReceivedBytesAndARunningCommand s t h0 h
  obtain ⟨hphase, -⟩ := hcmd (State.busy_of_txBusy hs)
  rwa [State.txBusy, hphase]

/-- Settles O47: the end is the sequencer's, and what it leaves is by the part of the XMIT in which it came. -/
theorem codesSayHowFarAnXmitCame : Obligations.CodesSayHowFarAnXmitCame := by
  intro s t hinv hs h ht
  have h0 : s.env.outsideTurns = 0 := by
    by_contra h0
    simp [txBusy_of_outside_step h0 h hs] at ht
  have htinv : t.Inv := stepKeepsTheInvariant s t hinv h
  obtain ⟨code, r, rfl, hlen, hcnt, hcode⟩ := (sequencerStep_of_step h0 h).xmit_ended hs ht
  have hpar : (finishTx code r).par = .off := htinv.chan.par_off (by simp)
  have hlt (hd : s.phase.sendsData = true) : s.txcnt.toNat < s.txlen.toNat := by
    rw [hinv.xmit.cnt_eq_idx]
    exact hinv.xmit.idx_lt hd
  have hall (hd : s.phase.sendsData = false) : s.txcnt = s.txlen := by
    rw [hinv.xmit.cnt_eq_idx]
    exact hinv.xmit.all_sent hs hd
  simp only [seqTurn_fields] at hlen hcnt hcode
  refine ⟨by simp, by simp, hpar, by simp [hlen], htinv.xmit.cnt_eq_idx.symm, ?_⟩
  simp only [finishTx_fields, hlen, hcnt]
  obtain ⟨hd, hok, hack⟩ | ⟨hd, hmem⟩ | ⟨hd, hmem⟩ := hcode
  · exact .inl ⟨hok, hall hd, hack⟩
  · exact .inr (.inl ⟨hmem, hlt hd⟩)
  · exact .inr (.inr ⟨hmem, hall hd⟩)

/-! ### The counters -/

/-- R476: what the counters do from `s` to `t`. -/
def CountsXmits (s t : State) : Prop :=
  t.cntTxTotal = (if s.txBusy = false ∧ t.txBusy = true then s.cntTxTotal + 1 else s.cntTxTotal) ∧
    t.cntTxFail = (if s.txBusy = true ∧ t.txBusy = false ∧ t.txcode ≠ .ok then s.cntTxFail + 1 else s.cntTxFail) ∧
    (s.txBusy = true → t.cntEsc = s.cntEsc ∧ t.cntMark = s.cntMark ∧ t.cntOvf = s.cntOvf)

/-- Where no XMIT starts or ends, the transmit counters stand. -/
theorem CountsXmits.of_going_on {s t : State} (hb : t.phase.txBusy = s.phase.txBusy)
    (ht : t.cntTxTotal = s.cntTxTotal ∧ t.cntTxFail = s.cntTxFail)
    (hr : s.phase.txBusy = true → t.cntEsc = s.cntEsc ∧ t.cntMark = s.cntMark ∧ t.cntOvf = s.cntOvf) :
    CountsXmits s t := by
  obtain ⟨htotal, hfail⟩ := ht
  have hb' : t.txBusy = s.txBusy := hb
  refine ⟨?_, ?_, hr⟩
  · rw [htotal, hb', if_neg]
    rintro ⟨hs, ht⟩
    simp [hs] at ht
  · rw [hfail, hb', if_neg]
    rintro ⟨hs, ht, -⟩
    simp [hs] at ht

/-- R470: the end of an XMIT counts a code other than `OK`. -/
theorem CountsXmits.of_finishTx {s r : State} (code : TxCode) (hs : s.phase.txBusy = true)
    (e : r.cntTxTotal = s.cntTxTotal ∧ r.cntTxFail = s.cntTxFail ∧ r.cntEsc = s.cntEsc ∧ r.cntMark = s.cntMark ∧
      r.cntOvf = s.cntOvf) : CountsXmits s (finishTx code r) := by
  obtain ⟨htotal, hfail, hrecv⟩ := e
  refine ⟨by simp [State.txBusy, htotal], ?_, fun _ => by simpa using hrecv⟩
  by_cases hc : code = .ok
  · simp [hc, hfail]
  · simp [State.txBusy, hs, hc, hfail, Counter.succ]

/-- R451: the start of an XMIT is counted. -/
theorem CountsXmits.of_startXmit {s : State} (hs : s.phase = .idle) : CountsXmits s (startXmit s) := by
  simp [CountsXmits, State.txBusy, hs, Counter.succ]

/-- R102: a RECV is no XMIT. -/
theorem Phase.txBusy_of_receives {p : Phase} (h : p.receives = true) : p.txBusy = false := by
  revert h
  cases p <;> simp

/-- R476: the sequencer starts no XMIT, and counts at its end. -/
theorem SequencerStep.countsXmits {s t : State} (h : SequencerStep s t) : CountsXmits s t := by
  cases h with
  | rest => exact .of_going_on rfl ⟨rfl, rfl⟩ fun _ => ⟨rfl, rfl, rfl⟩
  | abort hp => exact .of_going_on (by simp [Phase.txBusy_of_receives hp]) (by simp) (by simp)
  | decoder => exact .of_going_on (by simp) (by simp) (by simp)
  | cleanup hp | huntEnd hp | complete hp | appended hp | escBad hp | markBad hp | written hp | echoedFF hp | breakOn hp
  | breakWrite hp | breakOff hp | ackByte hp => exact .of_going_on (by simp [hp]) (by simp) (by simp [hp])
  | verified hp =>
    have hs : s.phase.txBusy = true := by obtain hp | hp := hp <;> simp [hp]
    refine .of_going_on ?_ (by simp) (by simp)
    rw [byteVerified_phase_eq, hs]
    split <;> rfl
  | echoFailed hp code =>
    have hs : s.phase.txBusy = true := by obtain hp | hp := hp <;> simp [hp]
    exact .of_finishTx code hs (by simp)
  | writeFailed hp | breakFailed hp | acknowledged hp | ackFailed hp => exact .of_finishTx _ (by simp [hp]) (by simp)

/-- R500: a START is no XMIT. -/
theorem acceptedStart_countsXmits {s : State} (hp : s.phase = .off) : CountsXmits s (acceptedStart s) := by
  cases ho : openAnswer s with
  | ok => exact .of_going_on (by simp [acceptedStart_of_ok ho, hp]) (by simp [acceptedStart_of_ok ho]) (by simp [hp])
  | fail =>
    exact .of_going_on (by simp [acceptedStart_of_fail ho]) (by simp [acceptedStart_of_fail ho]) (by simp [hp])

/-- R476: of the host's writes only an accepted XMIT counts. -/
theorem writeReg_countsXmits (idx : BitVec 8) (v : Reg) (s : State) : CountsXmits s (writeReg idx v s) := by
  obtain h | ⟨_, i, h⟩ | ⟨_, h⟩ | h | ⟨ha, h⟩ | ⟨ha, h⟩ | ⟨ha, h⟩ | ⟨_, h⟩ := writeReg_cases idx v s <;> rw [h]
  case inr.inr.inr.inr.inl =>
    have hp : s.phase = .idle := by simp_all [State.acceptsRecv]
    have hq : (startRecv s).phase.txBusy = false := by
      unfold startRecv
      dsimp only
      split <;> rfl
    exact .of_going_on (by simp [hq, hp]) (by simp) (by simp)
  case inr.inr.inr.inr.inr.inl => exact .of_startXmit (s.acceptsXmit_iff.1 ha).1
  case inr.inr.inr.inr.inr.inr.inl => exact acceptedStart_countsXmits (State.off_of_acceptsStart ha)
  all_goals exact .of_going_on (by simp) (by simp) (by simp)

/-- R13, R476: of a turn of the outside only such a write counts. -/
theorem outside_step_countsXmits {s t : State} {n : Nat} (hn : s.env.outsideTurns = n + 1) (h : step s = .next t) :
    CountsXmits s t := by
  obtain ⟨e, _, hs | ⟨b, hs⟩ | ⟨r, hs⟩ | ⟨idx, v, hs⟩⟩ := step_of_outside_cases hn <;> rw [h] at hs <;> cases hs
  · exact .of_going_on (by simp) (by simp) (by simp)
  · exact .of_going_on (by simp) (by simp) (by simp)
  · exact .of_going_on (by simp) (by simp) (by simp)
  · exact writeReg_countsXmits idx v { s with env := e }

/-- Settles O51: by whose turn the step is. -/
theorem transmitCountersCountXmits : Obligations.TransmitCountersCountXmits := by
  intro s t h
  cases hn : s.env.outsideTurns with
  | zero => exact (sequencerStep_of_step hn h).countsXmits
  | succ n => exact outside_step_countsXmits hn h

end Sys2Proof.Machine
end

section
/-! PROOFS. Whose turn it is (R501): the sequencer's comes once the outside has had its own, and where no command runs it
is at most the stop cleanup (R504). -/

namespace Sys2Proof.Machine

open Sys2Proof

/-! ### The turns of the outside -/

/-- R220: an `Open()` takes no turn from the outside. -/
@[simp] theorem useOpen_outsideTurns (e : Env) : (useOpen e).outsideTurns = e.outsideTurns := by
  unfold useOpen
  split <;> rfl

/-- R500: of the inputs to come a START uses the answer to its `Open()`. -/
@[simp] theorem acceptedStart_env (s : State) : (acceptedStart s).env = useOpen s.env := by
  cases ho : openAnswer s with
  | ok => simp [acceptedStart_of_ok ho]
  | fail => simp [acceptedStart_of_fail ho]

/-- R501: no write of the host takes a turn from the outside, or gives it one. -/
theorem writeReg_outsideTurns (idx : BitVec 8) (v : Reg) (s : State) :
    (writeReg idx v s).env.outsideTurns = s.env.outsideTurns := by
  obtain h | ⟨_, _, h⟩ | ⟨_, h⟩ | h | ⟨_, h⟩ | ⟨_, h⟩ | ⟨_, h⟩ | ⟨_, h⟩ :=
    writeReg_cases idx v s <;> simp [h]

/-- R501, R600: a turn of the outside has a next state, in which the outside has one turn less. -/
theorem exists_next_of_outside {s : State} {n : Nat} (hn : s.env.outsideTurns = n + 1) :
    ∃ u : State, step s = .next u ∧ u.env.outsideTurns = n := by
  obtain ⟨e, he, hs | ⟨b, hs⟩ | ⟨r, hs⟩ | ⟨idx, v, hs⟩⟩ := step_of_outside_cases hn
  · exact ⟨_, hs, he⟩
  · exact ⟨_, hs, he⟩
  · exact ⟨_, hs, he⟩
  · exact ⟨_, hs, (writeReg_outsideTurns idx v _).trans he⟩

/-- Settles O12, by induction on the turns that the outside has left. -/
theorem sequencerTurnComes : Obligations.SequencerTurnComes := by
  intro s
  generalize hn : s.env.outsideTurns = n
  induction n generalizing s with
  | zero => exact ⟨s, rfl, hn⟩
  | succ n ih =>
    obtain ⟨u, hstep, hu⟩ := exists_next_of_outside hn
    obtain ⟨t, hrun, ht⟩ := ih u hu
    exact ⟨t, (run_succ_of_step (M := Sys2Proof.core) hstep n).trans hrun, ht⟩

/-! ### The sequencer's turn where no command runs -/

/-- R501: in OFF the sequencer has no step. -/
theorem step_of_off {s : State} (h0 : s.env.outsideTurns = 0) (hp : s.phase = .off) : step s = .next s.seqTurn := by
  rw [step_of_sequencer h0]
  simp [sequencerTurn, hp]

/-- R501, R504: in IDLE the sequencer has the stop cleanup, where a stop is pending. -/
theorem step_of_idle {s : State} (h0 : s.env.outsideTurns = 0) (hp : s.phase = .idle) :
    step s = .next (if s.stopreq then stopCleanup s.seqTurn else s.seqTurn) := by
  rw [step_of_sequencer h0]
  simp [sequencerTurn, hp]

/-- Settles O11: OFF has no step, and IDLE only a pending stop's. -/
theorem sequencerHasNoStepInOffAndIdle : Obligations.SequencerHasNoStepInOffAndIdle := by
  intro s h0 hp
  obtain hp | ⟨hp, hq⟩ := hp
  · exact step_of_off h0 hp
  · simp [step_of_idle h0 hp, hq]

/-- Settles O25: the step is the stop cleanup. -/
theorem stopCleanupReleasesTheTransport : Obligations.StopCleanupReleasesTheTransport := by
  intro s h0 hp hq
  rw [step_of_idle h0 hp, if_pos hq]
  rfl

end Sys2Proof.Machine
end

section
/-! PROOFS. The host's reads and writes (R500 to R512): when a command is accepted, what a write does at each index, its
rejection (R505), and what clears CMDERR (R506). -/

namespace Sys2Proof.Machine

open Sys2Proof

/-! ### The commands and their acceptance -/

/-- R303: the opcodes of the four commands. -/
theorem commandOf_eq_some_iff (op : Byte) (c : Command) : commandOf op = some c ↔ op = c.opcode := by
  unfold commandOf
  cases c <;> simp only [Command.opcode] <;> split_ifs <;> simp_all

/-- R502: when each command is accepted. -/
def State.accepts (s : State) : Command → Bool
  | .recv => s.acceptsRecv
  | .xmit => s.acceptsXmit
  | .start => s.acceptsStart
  | .stop => s.acceptsStop

/-- R401: what RECV's acceptance says. -/
theorem State.acceptsRecv_iff (s : State) : s.acceptsRecv = true ↔ s.phase = .idle ∧ s.stopreq = false := by
  simp [State.acceptsRecv]

/-- R500: what START's acceptance says. -/
theorem State.acceptsStart_iff (s : State) : s.acceptsStart = true ↔ s.phase = .off := by
  simp [State.acceptsStart]

/-- R503: what STOP's acceptance says. -/
theorem State.acceptsStop_iff (s : State) : s.acceptsStop = true ↔ s.phase ≠ .off := by
  simp [State.acceptsStop]

/-- R505: a command that is not accepted is rejected. -/
theorem runCommand_of_refused {c : Command} {s : State} (h : ¬ s.accepts c = true) : runCommand c s = reject s := by
  cases c <;> exact if_neg h

/-- R506: a command that leaves CMDERR at 0 was accepted. -/
theorem accepts_of_cmderr_cleared {c : Command} {s : State} (h : (runCommand c s).cmderr = false) :
    s.accepts c = true := by
  by_contra ha
  simp [runCommand_of_refused ha] at h

/-- Settles O23: acceptance is PHASE = OFF, and then the `Open()` decides. -/
theorem startOpensOrFailsOrIsRejected : Obligations.StartOpensOrFailsOrIsRejected := by
  intro s
  have hacc (hp : s.phase = .off) : exec .start s = .next (acceptedStart s) := by
    simp only [exec, execStart, commandStart, if_pos (s.acceptsStart_iff.2 hp)]
  refine ⟨fun hp ho => ?_, fun hp ho => ?_, fun hp => ?_, exec_hostWrite_cmd rfl s⟩
  · rw [hacc hp, acceptedStart_of_ok ho]
    rfl
  · rw [hacc hp, acceptedStart_of_fail ho]
  · exact congrArg Host.Outcome.next (runCommand_of_refused (c := .start) (mt s.acceptsStart_iff.1 hp))

/-- Settles O24: acceptance is PHASE other than OFF. -/
theorem stopRequestsOrIsRejected : Obligations.StopRequestsOrIsRejected := by
  intro s
  refine ⟨fun hp => ?_, fun hp => ?_, exec_hostWrite_cmd rfl s⟩
  · simp only [exec, execStop, commandStop, if_pos (s.acceptsStop_iff.2 hp)]
  · exact congrArg Host.Outcome.next (runCommand_of_refused (c := .stop) fun ha => s.acceptsStop_iff.1 ha hp)

/-! ### A write at each index -/

/-- R150: the indices of TXB. -/
theorem exists_txbSlot_iff (idx : BitVec 8) : (∃ i, txbSlot idx = some i) ↔ 0x40 ≤ idx ∧ idx < 0x60 := by
  simp only [BitVec.le_def, BitVec.lt_def]
  unfold txbSlot
  split <;> simp_all

/-- R150: the index of each byte of TXB. -/
theorem txbSlot_index (j : Fin 32) : txbSlot (0x40 + BitVec.ofNat 8 j) = some j :=
  txbSlot_eq_some.2 (by bv_omega)

/-- R511: a write at an index of TXB. -/
theorem writeReg_of_txbSlot {idx : BitVec 8} {i : Fin 32} (h : txbSlot idx = some i) (v : Reg) (s : State) :
    writeReg idx v s = writeTxb i v s := by
  simp only [writeReg, h]

/-- R505: a write to a read-only register or a reserved index. -/
theorem writeReg_of_not_writable {idx : BitVec 8} (hn : idx ∉ ([0x00, 0x03, 0x05] : List (BitVec 8)))
    (h : ¬ (0x40 ≤ idx ∧ idx < 0x60)) (v : Reg) (s : State) : writeReg idx v s = reject s := by
  have ht : txbSlot idx = none := by
    rwa [← exists_txbSlot_iff, ← Option.ne_none_iff_exists', not_not] at h
  simp only [List.mem_cons, List.not_mem_nil, or_false, not_or] at hn
  simp only [writeReg, ht, hn, if_false]

/-- R502, R505, R511, R512: a write writes the register that its index names, or is rejected. -/
theorem writeReg_index_cases (idx : BitVec 8) (v : Reg) (s : State) :
    (∃ i, writeReg idx v s = writeTxb i v s) ∨ (idx = 0x00 ∧ writeReg idx v s = writeCmd v s) ∨
      writeReg idx v s = writeTxlen v s ∨ writeReg idx v s = { s with logmask := val6 v } ∨
      writeReg idx v s = reject s := by
  by_cases hn : idx ∈ ([0x00, 0x03, 0x05] : List (BitVec 8))
  · simp only [List.mem_cons, List.not_mem_nil, or_false] at hn
    obtain rfl | rfl | rfl := hn
    · exact .inr (.inl ⟨rfl, rfl⟩)
    · exact .inr (.inr (.inl rfl))
    · exact .inr (.inr (.inr (.inl rfl)))
  · by_cases h : 0x40 ≤ idx ∧ idx < 0x60
    · obtain ⟨i, hi⟩ := (exists_txbSlot_iff idx).2 h
      exact .inl ⟨i, writeReg_of_txbSlot hi v s⟩
    · exact .inr (.inr (.inr (.inr (writeReg_of_not_writable hn h v s))))

/-! ### Reads, and the writes of TXLENR, TXB and LOGMASKR -/

/-- Settles O14: the answer is the only effect. -/
theorem hostReadAnswersTheRegister : Obligations.HostReadAnswersTheRegister := fun _ _ _ => rfl

/-- R151: bits 5:0 of the value. -/
theorem val6_eq (v : Reg) : val6 v = v.extractLsb' 0 6 := BitVec.setWidth_eq_extractLsb' (by decide)

/-- R151, R302: bits 7:0 of the value. -/
theorem val8_eq (v : Reg) : val8 v = v.extractLsb' 0 8 := BitVec.setWidth_eq_extractLsb' (by decide)

/-- Settles O17: LOGMASKR's write looks at no other field. -/
theorem writeOfLogmask : Obligations.WriteOfLogmask := by
  intro s v
  rw [← val6_eq]
  rfl

/-- R102: TXBUSY, by the phases in which it is 0. -/
theorem State.txBusy_eq_false_iff (s : State) : s.txBusy = false ↔ s.phase ∈ [.off, .idle, .rxHunt, .rx] := by
  unfold State.txBusy
  cases s.phase <;> simp

/-- Settles O16: both writes look at TXBUSY first. -/
theorem writesOfLengthAndBuffer : Obligations.WritesOfLengthAndBuffer := by
  intro s v j
  have hlen : exec (.hostWrite 0x03 v) s = .next (writeTxlen v s) := rfl
  have hbuf : exec (.hostWrite (0x40 + BitVec.ofNat 8 j) v) s = .next (writeTxb j v s) :=
    congrArg Host.Outcome.next (writeReg_of_txbSlot (txbSlot_index j) v s)
  rw [hlen, hbuf, writeTxlen, writeTxb, val6_eq, val8_eq]
  exact ⟨s.txBusy_eq_false_iff, fun hb => by simp [hb], fun hb => by simp [hb, reject]⟩

/-! ### Rejection -/

/-- R505: a write of CMD with a reserved opcode. -/
theorem writeCmd_of_reserved {v : Reg} (h : commandOf (valOp v) = none) (s : State) : writeCmd v s = reject s := by
  simp only [writeCmd, h]

/-- R502: a write of CMD with a command's opcode. -/
theorem writeCmd_of_command {v : Reg} {c : Command} (h : v.extractLsb' 0 8 = c.opcode) (s : State) :
    writeCmd v s = runCommand c s := by
  have hc : commandOf (valOp v) = some c := (commandOf_eq_some_iff _ c).2 ((val8_eq v).trans h)
  simp only [writeCmd, hc]

/-- R505: a write of CMD with the opcode of a command that is not accepted. -/
theorem writeCmd_of_refused {v : Reg} {c : Command} {s : State} (h : v.extractLsb' 0 8 = c.opcode)
    (ha : ¬ s.accepts c = true) : writeCmd v s = reject s :=
  (writeCmd_of_command h s).trans (runCommand_of_refused ha)

/-- Settles O19: each of the six cases is a rejection. -/
theorem rejectedWritesSetCmderrOnly : Obligations.RejectedWritesSetCmderrOnly := by
  intro s idx v h
  have hreject : writeReg idx v s = reject s := by
    obtain ⟨rfl, hop⟩ | ⟨rfl, hop, ha⟩ | ⟨rfl, hop, ha⟩ | ⟨rfl, hop, ha⟩ | ⟨rfl, hop, ha⟩ | ⟨hn, ht⟩ |
      ⟨rfl | ht, hb⟩ := h
    · refine writeCmd_of_reserved ((commandOf_eq_none_iff _).2 ?_) s
      simpa [valOp, BitVec.setWidth_eq_extractLsb'] using hop
    · exact writeCmd_of_refused (c := .recv) hop (mt s.acceptsRecv_iff.1 ha)
    · exact writeCmd_of_refused (c := .xmit) hop (mt s.acceptsXmit_iff.1 ha)
    · exact writeCmd_of_refused (c := .start) hop (mt s.acceptsStart_iff.1 ha)
    · exact writeCmd_of_refused (c := .stop) hop fun hs => s.acceptsStop_iff.1 hs ha
    · exact writeReg_of_not_writable hn ht v s
    · exact if_pos hb
    · obtain ⟨i, hi⟩ := (exists_txbSlot_iff idx).2 ht
      exact (writeReg_of_txbSlot hi v s).trans (if_pos hb)
  exact congrArg Host.Outcome.next hreject

/-! ### What clears CMDERR -/

/-- R506: a write of CMD that leaves CMDERR at 0 gave a command that was accepted. -/
theorem accepts_of_writeCmd_cleared {v : Reg} {s : State} (h : (writeCmd v s).cmderr = false) :
    ∃ c : Command, v.extractLsb' 0 8 = c.opcode ∧ s.accepts c = true := by
  cases hc : commandOf (valOp v) with
  | none => simp [writeCmd_of_reserved hc] at h
  | some c =>
    have hop : v.extractLsb' 0 8 = c.opcode := (val8_eq v).symm.trans ((commandOf_eq_some_iff _ c).1 hc)
    rw [writeCmd_of_command hop] at h
    exact ⟨c, hop, accepts_of_cmderr_cleared h⟩

/-- R505, R511: a write of TXB keeps a CMDERR that is 1. -/
theorem writeTxb_cmderr {s : State} (hs : s.cmderr = true) (i : Fin 32) (v : Reg) :
    (writeTxb i v s).cmderr = true := by
  unfold writeTxb
  split <;> simp [hs]

/-- R505, R511: a write of TXLENR keeps a CMDERR that is 1. -/
theorem writeTxlen_cmderr {s : State} (hs : s.cmderr = true) (v : Reg) : (writeTxlen v s).cmderr = true := by
  unfold writeTxlen
  split <;> simp [hs]

/-- R506: a write of the host that clears CMDERR is a write of CMD that gave an accepted command. -/
theorem accepts_of_writeReg_cleared {idx : BitVec 8} {v : Reg} {s : State} (hs : s.cmderr = true)
    (h : (writeReg idx v s).cmderr = false) :
    idx = 0x00 ∧ ∃ c : Command, v.extractLsb' 0 8 = c.opcode ∧ s.accepts c = true := by
  obtain ⟨i, hw⟩ | ⟨hidx, hw⟩ | hw | hw | hw := writeReg_index_cases idx v s <;> rw [hw] at h
  · simp [writeTxb_cmderr hs] at h
  · exact ⟨hidx, accepts_of_writeCmd_cleared h⟩
  · simp [writeTxlen_cmderr hs] at h
  · simp [hs] at h
  · simp at h

/-- R13: everything a turn of the outside can fetch. -/
theorem fetch_of_outside_cases {s : State} {n : Nat} (hn : s.env.outsideTurns = n + 1) :
    ∃ e : Env, fetch s = .done { s with env := e } ∨ (∃ b, fetch s = .done (arrive b { s with env := e })) ∨
      (∃ b, fetch s = .run (.token b) { s with env := e }) ∨ ∃ w, fetch s = .run (.host w) { s with env := e } := by
  rw [fetch_of_outside hn, outsideTurn]
  dsimp only
  split
  · exact ⟨_, .inl rfl⟩
  · exact ⟨_, .inr (.inr (.inr ⟨_, rfl⟩))⟩
  · exact ⟨_, .inr (.inl ⟨_, rfl⟩)⟩
  · exact ⟨_, .inr (.inr (.inl ⟨_, rfl⟩))⟩
  · split
    · exact ⟨{ useEvent _ with events := _ }, .inr (.inr (.inr ⟨_, rfl⟩))⟩
    · exact ⟨_, .inr (.inr (.inr ⟨_, rfl⟩))⟩

/-- R301: the instruction of a host word is a read or a write. -/
theorem decodeHost_cases (w : HostWord) :
    (∃ idx v, decodeHost w = .hostRead idx v) ∨ ∃ idx v, decodeHost w = .hostWrite idx v := by
  unfold decodeHost
  split
  · exact .inr ⟨_, _, rfl⟩
  · exact .inl ⟨_, _, rfl⟩

/-- R506: a turn of the outside that clears CMDERR ran a write of the host that did. -/
theorem hostWrite_of_cmderr_cleared {s t : State} {n : Nat} (hn : s.env.outsideTurns = n + 1) (hs : s.cmderr = true)
    (h : step s = .next t) (ht : t.cmderr = false) :
    ∃ (w : HostWord) (idx : BitVec 8) (v : Reg) (e : Env), fetch s = .run (.host w) { s with env := e } ∧
      decodeHost w = .hostWrite idx v ∧ (writeReg idx v { s with env := e }).cmderr = false := by
  obtain ⟨e, hf | ⟨b, hf⟩ | ⟨b, hf⟩ | ⟨w, hf⟩⟩ := fetch_of_outside_cases hn <;> rw [step_eq_runFetched, hf] at h
  · cases h
    simp [hs] at ht
  · cases h
    simp [hs] at ht
  · obtain ⟨r, hr⟩ := exec_decodeToken_eq_reply b { s with env := e }
    rw [runFetched_run (decode_token b), hr] at h
    cases h
    simp [hs] at ht
  · rw [runFetched_run (decode_host w)] at h
    obtain ⟨idx, v, hd⟩ | ⟨idx, v, hd⟩ := decodeHost_cases w <;> rw [hd] at h <;> cases h
    · simp [hs] at ht
    · exact ⟨w, idx, v, e, hf, hd, ht⟩

/-- Settles O20: the sequencer leaves CMDERR, and of the outside's turns only an accepted command's clears it. -/
theorem cmderrIsSticky : Obligations.CmderrIsSticky := by
  intro s t hs h ht
  cases hn : s.env.outsideTurns with
  | zero =>
    obtain ⟨-, -, -, -, hkept, -⟩ := sequencerLeavesTheHostsFields s t hn h
    simp [hkept, hs] at ht
  | succ n =>
    obtain ⟨w, idx, v, e, hf, hd, hw⟩ := hostWrite_of_cmderr_cleared hn hs h ht
    obtain ⟨rfl, c, hop, ha⟩ := accepts_of_writeReg_cleared (s := { s with env := e }) hs hw
    refine ⟨w, v, _, hf, hd, ?_⟩
    cases c with
    | recv => exact .inl ⟨hop, (State.acceptsRecv_iff _).1 ha⟩
    | xmit => exact .inr (.inl ⟨hop, (State.acceptsXmit_iff _).1 ha⟩)
    | start => exact .inr (.inr (.inl ⟨hop, (State.acceptsStart_iff _).1 ha⟩))
    | stop => exact .inr (.inr (.inr ⟨hop, (State.acceptsStop_iff _).1 ha⟩))

end Sys2Proof.Machine
end

section
/-! PROOFS. R600: nothing stops the machine. A step can refuse in two places only: a fetched word that no row decodes,
which no turn forms, and a TXIDX past the buffer, which the invariant rules out. -/

namespace Sys2Proof.Machine

open Sys2Proof

/-- R600: a fetched word that decodes leads to a next state. -/
theorem exists_next_of_decode {e : Encoded} {i : Instr} (h : decode e = .ok i) (u : State) :
    ∃ t : State, runFetched (.run e u) = .next t := by
  rw [runFetched_run h]
  exact exec_answers_next i u

/-- R403, R404, R419: a receive step stops, waits, or reads a byte, whose symbol decodes in every decoder state. -/
theorem exists_next_of_rxTurn (s : State) : ∃ t : State, runFetched (rxTurn s) = .next t := by
  unfold rxTurn
  split
  · exact ⟨_, rfl⟩
  · split
    · exact ⟨_, rfl⟩
    next b _ =>
      obtain ⟨i, hd⟩ := exists_decode_rxSymbol s.ds b
      exact exists_next_of_decode hd _

/-- R465: the sequencer's step in TX_ACK. -/
theorem step_of_txAck {s : State} (h0 : s.env.outsideTurns = 0) (hp : s.phase = .txAck) :
    step s = runFetched (ackTurn s.seqTurn) := by
  rw [step_of_sequencer h0]
  simp [sequencerTurn, hp]

/-- R465: an acknowledgment step times out or reads a byte, whose symbol decodes at every position. -/
theorem exists_next_of_ackTurn (s : State) : ∃ t : State, runFetched (ackTurn s) = .next t := by
  unfold ackTurn
  split
  · exact ⟨_, rfl⟩
  next a _ => exact exists_next_of_decode (i := decodeAck (ackSymbol s.ackpos a)) rfl _

/-- R122, R457: while bytes are still to be verified, `TXBUF[TXIDX]` is a byte of the buffer. -/
theorem State.XmitInv.exists_txByte {s : State} (h : s.XmitInv) (hd : s.phase.sendsData = true)
    (hb : s.txBusy = true) : ∃ b, txByte s = some b := by
  have hidx : s.txidx.toNat < 32 := (h.idx_lt hd).trans_le (h.len_ok hb).2
  exact ⟨_, Vector.getElem?_eq_getElem hidx⟩

/-- R501, R600: the sequencer's turn has a next state, phase by phase. -/
theorem exists_next_of_sequencer {s : State} (h : s.Inv) (h0 : s.env.outsideTurns = 0) :
    ∃ t : State, step s = .next t := by
  cases hp : s.phase with
  | off => exact ⟨_, step_of_off h0 hp⟩
  | idle => exact ⟨_, step_of_idle h0 hp⟩
  | rxHunt => rw [step_of_receiving h0 (.inr hp)]; exact exists_next_of_rxTurn _
  | rx => rw [step_of_receiving h0 (.inl hp)]; exact exists_next_of_rxTurn _
  | txWrite =>
    obtain ⟨b, hb⟩ := h.xmit.exists_txByte (by simp [hp]) (by simp [State.txBusy, hp])
    exact ⟨_, step_of_txWrite h0 hp hb⟩
  | txEcho1 =>
    obtain ⟨b, hb⟩ := h.xmit.exists_txByte (by simp [hp]) (by simp [State.txBusy, hp])
    exact ⟨_, step_of_txEcho1 h0 hp hb⟩
  | txEcho2 => exact ⟨_, step_of_txEcho2 h0 hp⟩
  | txBrkOn => exact ⟨_, step_of_txBrkOn h0 hp⟩
  | txBrkWr => exact ⟨_, step_of_txBrkWr h0 hp⟩
  | txBrkOff => exact ⟨_, step_of_txBrkOff h0 hp⟩
  | txAck => rw [step_of_txAck h0 hp]; exact exists_next_of_ackTurn _

/-- Settles O8: by whose turn the step is; only the sequencer's needs the invariant. -/
theorem nothingStopsTheMachine : Obligations.NothingStopsTheMachine := by
  intro s h
  cases hn : s.env.outsideTurns with
  | zero => exact exists_next_of_sequencer h hn
  | succ n =>
    obtain ⟨t, hstep, -⟩ := exists_next_of_outside hn
    exact ⟨t, hstep⟩

end Sys2Proof.Machine
end

section
/-! PROOFS. Decoder and encoder (R300 to R305, R330 to R334): each is the other's inverse, on the well-formed
instructions and on the words that decode; and words written out from the spec. -/

namespace Sys2Proof.Machine

open Sys2Proof

/-! ### The operand values a row is left with -/

/-- R304: 0xFF is S0_ESC's. -/
theorem wf_s0Lit_iff {b : Byte} : (Instr.s0Lit b).wf = true ↔ b ≠ 0xFF := bne_iff_ne

/-- R304: 0x00 is S1_MARK's, 0xFF is S1_FF's. -/
theorem wf_s1Bad_iff {b : Byte} : (Instr.s1Bad b).wf = true ↔ b ≠ 0x00 ∧ b ≠ 0xFF := by
  simp [Instr.wf]

/-- R304: 0x00 is S2_BREAK's. -/
theorem wf_s2Bad_iff {b : Byte} : (Instr.s2Bad b).wf = true ↔ b ≠ 0x00 := bne_iff_ne

/-- R305: the three other rows each take one position with one byte. -/
theorem wf_ackBad_iff {pos : BitVec 2} {a : Byte} :
    (Instr.ackBad pos a).wf = true ↔
      ¬ (pos = 0 ∧ a = 0xFF) ∧ ¬ (pos = 1 ∧ a = 0x00) ∧ ¬ (pos = 2 ∧ a = 0x00) := by
  simp [Instr.wf, imp_iff_not_or, and_assoc]

/-- R331, R334: 0x01 is ACK's. -/
theorem wf_tokenUnknown_iff {low : BitVec 3} : (Instr.tokenUnknown low).wf = true ↔ low ≠ 1 := bne_iff_ne

/-- R333: the bytes below 0x08 are ACK's and UNKNOWN's. -/
theorem wf_tokenRelease_iff {id : BitVec 7} : (Instr.tokenRelease id).wf = true ↔ 8 ≤ id.toNat := decide_eq_true_iff

/-! ### A word's fields, put together again -/

/-- A word is its high field and then its low field. -/
theorem high_append_low (m n : Nat) (x : BitVec (m + n)) : x.extractLsb' n m ++ x.extractLsb' 0 n = x :=
  (BitVec.extractLsb'_append_extractLsb'_eq_extractLsb' (Nat.zero_add n).symm).trans BitVec.extractLsb'_eq_self

/-- R301: a host word is its three fields. -/
theorem hostWord_of_fields (w : HostWord) :
    hostWord (w.extractLsb' 40 1) (w.extractLsb' 32 8) (w.extractLsb' 0 32) = w := by
  have hhigh : w.extractLsb' 40 1 ++ w.extractLsb' 32 8 = w.extractLsb' 32 9 :=
    BitVec.extractLsb'_append_extractLsb'_eq_extractLsb' rfl
  rw [hostWord, hhigh]
  exact high_append_low 9 32 w

/-- A field of one bit is that bit. -/
theorem extractLsb'_one_eq {n : Nat} (x : BitVec n) (k : Nat) : x.extractLsb' k 1 = BitVec.ofBool (x.getLsbD k) := by
  ext j hj
  obtain rfl : j = 0 := by omega
  simp

/-- The value of a word put together from two fields. -/
theorem toNat_append_eq {m n : Nat} (x : BitVec m) (y : BitVec n) :
    (x ++ y).toNat = x.toNat * 2 ^ n + y.toNat := by
  rw [BitVec.toNat_append, ← Nat.shiftLeft_add_eq_or_of_lt y.isLt, Nat.shiftLeft_eq]

/-! ### Decoding an encoded word -/

/-- R301. -/
theorem decodeHost_hostWord (w : BitVec 1) (idx : BitVec 8) (val : BitVec 32) :
    decodeHost (hostWord w idx val) = if w.getLsbD 0 then .hostWrite idx val else .hostRead idx val := by
  obtain ⟨hw, hidx, hval⟩ := hostWord_fields w idx val
  rw [decodeHost, hw, hidx, hval]

/-- R330 to R334: the instruction of a token byte by the byte's value. -/
theorem decodeToken_eq (b : Byte) :
    decodeToken b =
      if b = 0x01 then .tokenAck
      else if b.toNat < 0x08 then .tokenUnknown (b.extractLsb' 0 3)
      else if 0x80 ≤ b.toNat then .tokenAssign (b.extractLsb' 0 7)
      else .tokenRelease (b.extractLsb' 0 7) := by
  simp only [decodeToken, high_bits_eq_zero_iff, getLsbD_seven_iff]

/-- R334. -/
theorem decodeToken_unknown {low : BitVec 3} (h : low ≠ 1) :
    decodeToken ((0 : BitVec 5) ++ low) = .tokenUnknown low := by
  have hv : ((0 : BitVec 5) ++ low).toNat = low.toNat := by rw [toNat_append_eq]; simp
  rw [decodeToken_eq, if_neg (by bv_omega), if_pos (by omega), BitVec.extractLsb'_append_eq_right]

/-- R332. -/
theorem decodeToken_assign (id : BitVec 7) : decodeToken ((1 : BitVec 1) ++ id) = .tokenAssign id := by
  have hv : ((1 : BitVec 1) ++ id).toNat = 0x80 + id.toNat := by rw [toNat_append_eq]; simp
  rw [decodeToken_eq, if_neg (by bv_omega), if_neg (by omega), if_pos (by omega), BitVec.extractLsb'_append_eq_right]

/-- R333. -/
theorem decodeToken_release {id : BitVec 7} (h : 8 ≤ id.toNat) :
    decodeToken ((0 : BitVec 1) ++ id) = .tokenRelease id := by
  have hv : ((0 : BitVec 1) ++ id).toNat = id.toNat := by rw [toNat_append_eq]; simp
  rw [decodeToken_eq, if_neg (by bv_omega), if_neg (by omega), if_neg (by omega), BitVec.extractLsb'_append_eq_right]

/-- Settles O1: row by row; a row's well-formedness shuts out the rows tried before it. -/
theorem decodeOfEncodeIsTheInstruction : Obligations.DecodeOfEncodeIsTheInstruction := by
  intro i h
  cases i with
  | hostRead idx val => exact congrArg _ (decodeHost_hostWord 0 idx val)
  | hostWrite idx val => exact congrArg _ (decodeHost_hostWord 1 idx val)
  | recv | xmit | start | stop => rfl
  | s0Esc => exact decodeRx_rxSymbol .normal 0xFF
  | s0Lit b => exact (decodeRx_rxSymbol .normal b).trans (by simp only [if_neg (wf_s0Lit_iff.1 h)])
  | s1Mark => exact decodeRx_rxSymbol .sawFF 0x00
  | s1Ff => exact decodeRx_rxSymbol .sawFF 0xFF
  | s1Bad b =>
    obtain ⟨h0, hf⟩ := wf_s1Bad_iff.1 h
    exact (decodeRx_rxSymbol .sawFF b).trans (by simp only [if_neg h0, if_neg hf])
  | s2Break => exact decodeRx_rxSymbol .marked 0x00
  | s2Bad b => exact (decodeRx_rxSymbol .marked b).trans (by simp only [if_neg (wf_s2Bad_iff.1 h)])
  | ackB0 => exact congrArg _ (decodeAck_ackSymbol 0 0xFF)
  | ackB1 => exact congrArg _ (decodeAck_ackSymbol 1 0x00)
  | ackB2 => exact congrArg _ (decodeAck_ackSymbol 2 0x00)
  | ackBad pos a =>
    obtain ⟨h0, h1, h2⟩ := wf_ackBad_iff.1 h
    exact congrArg _ ((decodeAck_ackSymbol pos a).trans (by rw [if_neg h0, if_neg h1, if_neg h2]))
  | tokenAck => rfl
  | tokenUnknown low => exact congrArg _ (decodeToken_unknown (wf_tokenUnknown_iff.1 h))
  | tokenAssign id => exact congrArg _ (decodeToken_assign id)
  | tokenRelease id => exact congrArg _ (decodeToken_release (wf_tokenRelease_iff.1 h))

/-! ### Encoding the instruction of a word -/

/-- R301. -/
theorem wf_and_encode_decodeHost (w : HostWord) :
    (decodeHost w).wf = true ∧ encode (decodeHost w) = .host w := by
  have hw := hostWord_of_fields w
  rw [extractLsb'_one_eq] at hw
  unfold decodeHost
  cases h : w.getLsbD 40 <;> rw [h] at hw <;> exact ⟨rfl, congrArg _ hw⟩

/-- R303. -/
theorem wf_and_encode_decodeCmd {op : Byte} {i : Instr} (h : decodeCmd op = .ok i) :
    i.wf = true ∧ encode i = .cmd op := by
  unfold decodeCmd at h
  split at h <;> cases h <;> exact ⟨rfl, congrArg _ ((commandOf_eq_some_iff op _).1 ‹_›).symm⟩

/-- R304: the state and the byte that a row compares are those its word is made of. -/
theorem wf_and_encode_decodeRx {y : Symbol} {i : Instr} (h : decodeRx y = .ok i) :
    i.wf = true ∧ encode i = .rxsym y := by
  have hy := high_append_low 2 8 y
  simp only [decodeRx] at h
  generalize y.extractLsb' 8 2 = d at h hy
  generalize y.extractLsb' 0 8 = b at h hy
  subst hy
  split_ifs at h with h0 hf h1 hz hf h2 hz <;> cases h
  · subst h0 hf; exact ⟨rfl, rfl⟩
  · subst h0; exact ⟨wf_s0Lit_iff.2 hf, rfl⟩
  · subst h1 hz; exact ⟨rfl, rfl⟩
  · subst h1 hf; exact ⟨rfl, rfl⟩
  · subst h1; exact ⟨wf_s1Bad_iff.2 ⟨hz, hf⟩, rfl⟩
  · subst h2 hz; exact ⟨rfl, rfl⟩
  · subst h2; exact ⟨wf_s2Bad_iff.2 hz, rfl⟩

/-- R305. -/
theorem wf_and_encode_decodeAck (y : Symbol) :
    (decodeAck y).wf = true ∧ encode (decodeAck y) = .acksym y := by
  have hy := high_append_low 2 8 y
  simp only [decodeAck]
  generalize y.extractLsb' 8 2 = pos at hy ⊢
  generalize y.extractLsb' 0 8 = a at hy ⊢
  subst hy
  split_ifs with h0 h1 h2
  · obtain ⟨rfl, rfl⟩ := h0; exact ⟨rfl, rfl⟩
  · obtain ⟨rfl, rfl⟩ := h1; exact ⟨rfl, rfl⟩
  · obtain ⟨rfl, rfl⟩ := h2; exact ⟨rfl, rfl⟩
  · exact ⟨wf_ackBad_iff.2 ⟨h0, h1, h2⟩, rfl⟩

/-- R330 to R334: `UNKNOWN` leaves 0x01 to `ACK`, and `RELEASE` starts at 0x08. -/
theorem wf_and_encode_decodeToken (b : Byte) :
    (decodeToken b).wf = true ∧ encode (decodeToken b) = .token b := by
  unfold decodeToken
  split_ifs with h1 h5 h7
  · exact ⟨rfl, congrArg _ h1.symm⟩
  · have hb := high_append_low 5 3 b
    rw [h5] at hb
    have hlow : b.extractLsb' 0 3 ≠ 1 := fun hl => h1 (by rw [← hb, hl]; rfl)
    exact ⟨wf_tokenUnknown_iff.2 hlow, congrArg _ hb⟩
  all_goals
    have hb := high_append_low 1 7 b
    rw [extractLsb'_one_eq] at hb
  · rw [h7] at hb
    exact ⟨rfl, congrArg _ hb⟩
  · rw [Bool.eq_false_iff.2 h7] at hb
    have hv : b.toNat = (b.extractLsb' 0 7).toNat := by
      conv_lhs => rw [← hb]
      rw [toNat_append_eq]
      simp
    rw [high_bits_eq_zero_iff, hv, Nat.not_lt] at h5
    exact ⟨wf_tokenRelease_iff.2 h5, congrArg _ hb⟩

/-- Settles O2: format by format. -/
theorem encodeOfDecodeIsTheWord : Obligations.EncodeOfDecodeIsTheWord := by
  intro e i h
  cases e with
  | host w => cases h; exact wf_and_encode_decodeHost w
  | cmd op => exact wf_and_encode_decodeCmd h
  | rxsym y => exact wf_and_encode_decodeRx h
  | acksym y => cases h; exact wf_and_encode_decodeAck y
  | token b => cases h; exact wf_and_encode_decodeToken b

/-- Settles O4: the words of `rd` and `wr` are encodings, whatever their operands; the others are evaluated. -/
theorem wordsOfTheSpecDecode : Obligations.WordsOfTheSpecDecode := by
  unfold Obligations.WordsOfTheSpecDecode
  iterate 24 refine ⟨by decide, ?_⟩
  exact fun idx v => ⟨decodeOfEncodeIsTheInstruction (.hostRead idx 0) rfl,
    decodeOfEncodeIsTheInstruction (.hostWrite idx v) rfl⟩

end Sys2Proof.Machine
end

section
/-! PROOFS. The invariant at reset (R160, R700). -/

namespace Sys2Proof.Machine

open Sys2Proof

/-- R160: nothing received, and no RECV. -/
theorem reset_recvInv : State.reset.RecvInv where
  rxlen_le  := Nat.zero_le _
  ovf_full  := nofun
  not_done  := nofun
  ds_normal := fun _ => rfl
  hunting   := nofun

/-- R160: nothing sent, and no XMIT. -/
theorem reset_xmitInv : State.reset.XmitInv where
  cnt_eq_idx := rfl
  idx_le     := Nat.zero_le _
  len_ok     := nofun
  idx_lt     := nofun
  all_sent   := nofun
  second_ff  := nofun
  code_busy  := by decide
  not_done   := nofun
  ack_lt     := nofun
  no_brkfail := fun _ _ => rfl
  none_zero  := fun _ => rfl

/-- R160, R229, R700: the transport is closed, RUN is 0, and no stop request is pending. -/
theorem reset_chanInv : State.reset.ChanInv where
  par_even    := by decide
  chan_parity := rfl
  chan_open   := rfl
  stop_run    := nofun

/-- Settles O6. -/
theorem invariantHoldsAtReset : Obligations.InvariantHoldsAtReset := ⟨reset_recvInv, reset_xmitInv, reset_chanInv⟩

end Sys2Proof.Machine
end
